-- ==== Sys2Proof/Word.lean ====
section
/-! DEFINITION. The words of the SP40: bytes, 32-bit words, 48-bit stamps and 32-bit counters. -/

namespace Sys2Proof

/-- One byte of host memory, of the cue stream, of a link unit or of a sample message. -/
abbrev Byte := BitVec 8

/-- One 32-bit register, serial or field. -/
abbrev Word := BitVec 32

/-- A stamp: a 48-bit count of microseconds (R37). -/
abbrev Stamp := BitVec 48

/-- A 32-bit count that stays at its largest value (00, Conventions; R19, R33, R38, R78, R91, R108, R133, R159). -/
abbrev Counter := BitVec 32

end Sys2Proof
end

