-- ==== Sys2Proof/Config.lean ====
section
/-! DEFINITION. The constants the manual fixes: sizes, ranges, defaults, codes and the four link values.
The manual leaves no result of a step open, so there is no free value here (log 1, 4 and 19 say where an
order or an extent is left open, and how). -/

namespace Sys2Proof.Config

/-- Slots of the pool with SLOTS=FULL (R21). -/
abbrev slotsFull : Nat := 24
/-- Slots of the pool with SLOTS=HALF (R21). -/
abbrev slotsHalf : Nat := 12
/-- Bytes of one slot, 16 MiB (R21). -/
abbrev slotBytes : Nat := 16777216
/-- Frames an eye queue holds at most (R24, R27). -/
abbrev eyeQueueRoom : Nat := 8
/-- Entries the pair table holds at most (R61). -/
abbrev pairTableRoom : Nat := 6
/-- Targets the target list holds at most (R110). -/
abbrev targetRoom : Nat := 32
/-- Places of the pending-results queue (R123). -/
abbrev pendingPlaces : Nat := 8
/-- Samples a port's stack holds at most (R85). -/
abbrev stackRoom : Nat := 4
/-- Addresses the return stack holds at most (R145). -/
abbrev returnDepth : Nat := 4
/-- Judgments the mark history holds at most (R6). -/
abbrev historyRoom : Nat := 8
/-- Valid count above which the reader issues no fetch (R137). -/
abbrev fetchLimit : Nat := 24

/-- The mark pattern as a little-endian number (11, The camera link units). -/
abbrev markPattern : BitVec 32 := 0x9A6C35E1#32
/-- The head opener. -/
abbrev headOpener : BitVec 32 := 0xC3A5F01E#32
/-- The tail opener. -/
abbrev tailOpener : BitVec 32 := 0xC3A5F02D#32
/-- The fill opener. -/
abbrev fillOpener : BitVec 32 := 0xC3A5F03C#32
/-- The greatest distance of the first further mark, the row length of the widest, deepest format (R5). -/
abbrev maxRowLength : Nat := 8202
/-- The number of sensor row numbers, 0..4,095 (R4). -/
abbrev rowNumbers : Nat := 4096

/-- Least consistent reference interval, µs (R38). -/
abbrev leastInterval : Nat := 4000
/-- Greatest consistent reference interval, µs (R38). -/
abbrev greatestInterval : Nat := 100000
/-- Default free period, µs (R46). -/
abbrev defaultFreePeriod : Nat := 41667

/-- The start byte of a sample message (R81). -/
abbrev startByte : Byte := 0x7E#8
/-- The kind byte of a lens message (R83). -/
abbrev lensKind : Byte := 0x4C#8
/-- The kind byte of a rig message (R83). -/
abbrev rigKind : Byte := 0x52#8
/-- Bytes of a sample message (R82). -/
abbrev messageBytes : Nat := 11
/-- A message's completion limit, µs (R81). -/
abbrev messageLimit : Nat := 2000
/-- The longest a measurement lasts, µs (06, The measurement). -/
abbrev measurementLimit : Nat := 100
/-- A host read's completion limit, µs (R196). -/
abbrev readLimit : Nat := 50000

/-- Vendor code of IDENT (10, The registers). -/
abbrev vendorCode : Nat := 0x5C4E
/-- Offset of the consumed word in the exchange header (11, The exchange header). -/
abbrev consumedOffset : Nat := 0x20

end Sys2Proof.Config
end

