-- ==== Sys2Proof/Syntax.lean ====
section
/-! DEFINITION. The commands of the SP40: one constructor for each row of spec/opcode_table.json, in the
table's order, with the operands the spec gives the event. A cue's row has no operand: the cue is the one
standing in the prefetch buffer (R142, log 9). A link unit is held as the little-endian number its bytes spell
(00, Byte order): the byte at offset k is bits 8k+7..8k. -/

namespace Sys2Proof

/-- The two eyes (00, Conventions). -/
inductive Eye where
  | left
  | right
deriving DecidableEq, Repr

/-- The three sample ports (05). -/
inductive PortId where
  | leftLens
  | rightLens
  | rig
deriving DecidableEq, Repr

/-- The width of a host access to the register window (R187). -/
inductive AccessWidth where
  | byte
  | half
  | word
deriving DecidableEq, Repr

/-- The host accesses the blocks make through the Bus Port, MSI messages apart (10, The Bus Port). -/
inductive Access where
  | headerRead
  | cueFetch
  | consumedRead
  | targetWrite
  | recordWrite
  | statusWrite
deriving DecidableEq, Repr

/-- The blocks that observe every pace tick (R47). -/
inductive TickObserver where
  | linkReceiver (eye : Eye)
  | samplePort (port : PortId)
  | pairMatcher
  | cueReader
  | resultWriter
deriving DecidableEq, Repr

/-- The levels of the strap pins: the two RIG_MODE pins in the manual's order, SLOTS and REFERENCE; true is
high (10, Electrical summary). -/
structure StrapPins where
  rigFirst : Bool
  rigSecond : Bool
  slots : Bool
  reference : Bool
deriving DecidableEq, Repr

/-- The commands, in the order of the table's rows. -/
inductive Instr where
  /-- POWER_ON_RESET (R199). -/
  | powerOnReset (pins : StrapPins)
  /-- PCIE_LINK_RESET (R199). -/
  | pcieLinkReset (pins : StrapPins)
  /-- START (R189, R190): a 32-bit write of 0x01 to CONTROL. -/
  | start
  /-- STOP (R189, R193): a 32-bit write of 0x02 to CONTROL. -/
  | stop
  /-- RESET (R189, R199): a 32-bit write of 0x0F to CONTROL. -/
  | reset
  /-- CAUSE_WRITE (R197). -/
  | causeWrite (value : BitVec 32)
  /-- ENABLE_WRITE (R187, R198). -/
  | enableWrite (value : BitVec 32)
  /-- REGISTER_WRITE (R187): any host write to the window. -/
  | registerWrite (offset : BitVec 5) (width : AccessWidth) (value : BitVec 32)
  /-- HEADER_READ_RETURN (R192): the 64 bytes of the exchange header. -/
  | headerReadReturn (header : BitVec 512)
  /-- BUS_ERROR (R196): the access that failed. -/
  | busError (access : Access)
  /-- READ_TIMEOUT (R196): the read that timed out. -/
  | readTimeout (access : Access)
  /-- REFERENCE_PULSE (R38). -/
  | referencePulse (order : List TickObserver)
  /-- LOSS_DEADLINE_EXPIRY (R42). -/
  | lossDeadlineExpiry (order : List TickObserver)
  /-- TICK_TIMER_EXPIRY (R43, R44). -/
  | tickTimerExpiry (order : List TickObserver)
  /-- HOLDOVER_LIMIT_REACHED (R43). -/
  | holdoverLimitReached (order : List TickObserver)
  /-- SILENCE_EXPIRY (R7). -/
  | silenceExpiry (eye : Eye)
  /-- HUNT_MARK_FOUND (R4): the position of the pattern in the link's bytes, and the eight bytes there. -/
  | huntMarkFound (eye : Eye) (position : Nat) (mark : BitVec 64)
  /-- VERIFY_MARK (R5): a position and the eight bytes there. -/
  | verifyMark (eye : Eye) (position : Nat) (mark : BitVec 64)
  /-- ROW_POSITION (R6, R15): the first eight bytes at the position, and the rest of it. -/
  | rowPosition (eye : Eye) (mark : BitVec 64) (body : List Byte)
  /-- FRAME_HEAD (R8, R9): the 24 bytes of the unit. -/
  | frameHead (eye : Eye) (head : BitVec 192)
  /-- FRAME_TAIL (R9): the 16 bytes of the unit. -/
  | frameTail (eye : Eye) (tail : BitVec 128)
  /-- FILL_UNIT (R9): the 8 bytes of the unit. -/
  | fillUnit (eye : Eye) (fill : BitVec 64)
  /-- PARTNER_WAIT_EXPIRY (R55). -/
  | partnerWaitExpiry
  /-- TAKE_CLOSE_COMPLETION (R76). -/
  | takeCloseCompletion
  /-- SAMPLE_MESSAGE (R82, R83): the character that ends a message. -/
  | sampleMessage (port : PortId) (char : Byte) (framingError : Bool)
  /-- MESSAGE_DEADLINE_EXPIRY (R82). -/
  | messageDeadlineExpiry (port : PortId)
  /-- MEASUREMENT_BEGIN (R95). -/
  | measurementBegin
  /-- MEASUREMENT_DONE (R99). -/
  | measurementDone
  /-- DELIVERY_START (R115). -/
  | deliveryStart
  /-- COPY_COMPLETION (R120, R121): the Bus Port accepts every target write that remains. The row has no field; the
  model's own `some n` has it accept only the next `n`, and the copy goes on (R195, log 19). -/
  | copyCompletion (writes : Option Nat := none)
  /-- RECORD_WRITE_ACCEPTED (R129). -/
  | recordWriteAccepted
  /-- CONSUMED_READ_RETURN (R127): the consumed word. -/
  | consumedReadReturn (value : BitVec 32)
  /-- STATUS_WRITE_ACCEPTED (R132). -/
  | statusWriteAccepted
  /-- DRAINING_END_REACHED (R131). -/
  | drainingEndReached
  /-- END_OF_DRAINING (R194). -/
  | endOfDraining
  /-- CUE_FETCH_RETURN (R138): the eight bytes of the word. -/
  | cueFetchReturn (fetched : BitVec 64)
  /-- FAULT_RECORD_PLACED (R157). -/
  | faultRecordPlaced
  /-- HOLD_RELEASE (R149). -/
  | holdRelease
  /-- PARK (R153). -/
  | park
  /-- PAD (R163). -/
  | pad
  /-- JUMP (R164). -/
  | jump
  /-- CALL (R165). -/
  | call
  /-- RETURN (R166). -/
  | returnCue
  /-- EYE (R167). -/
  | eyeCue
  /-- FORMAT (R170). -/
  | format
  /-- ORIENT (R171). -/
  | orient
  /-- PROBES (R173). -/
  | probes
  /-- LINK (R174). -/
  | link
  /-- MATCH (R175). -/
  | matchCue
  /-- TRACK (R176). -/
  | track
  /-- SAMPLES (R177). -/
  | samples
  /-- PACE (R178). -/
  | pace
  /-- TARGET (R180). -/
  | target
  /-- RECALL (R181). -/
  | recall
  /-- OPEN_TAKE (R182). -/
  | openTake
  /-- CLOSE_TAKE (R183). -/
  | closeTake
  /-- NOTE (R184). -/
  | note
  /-- WAIT (R185). -/
  | waitCue
  /-- WAIT_END (R151). -/
  | waitEnd
  /-- SAMPLE_CHARACTER (R81, R82): a character taken at its stop bit. -/
  | sampleCharacter (port : PortId) (char : Byte) (framingError : Bool)
  /-- CONFIGURATION_ACCESS (R199): MSI enable and bus mastering as the host leaves them. -/
  | configurationAccess (msi : Bool) (busMaster : Bool)
deriving DecidableEq, Repr

end Sys2Proof
end

