-- ==== Sys2Proof/WellFormed.lean ====
section
/-! DEFINITION. Well-formed commands: a link unit begins with the value that names it (R2), a row position is
no longer than the longest row length (R5), a tick is taken by no block twice (R47). -/

namespace Sys2Proof

/-- The first four bytes at a position, as a number (R2). -/
def leading {n : Nat} (unit : BitVec n) : BitVec 32 := unit.extractLsb' 0 32

/-- A command the spec's tables admit. A command that is not well formed names no event. -/
def Instr.wellFormed : Instr → Bool
  | .huntMarkFound _ _ mark => leading mark == Config.markPattern
  | .rowPosition _ mark body =>
      decide (body.length + 8 ≤ Config.maxRowLength) && leading mark != Config.headOpener &&
        leading mark != Config.tailOpener && leading mark != Config.fillOpener
  | .frameHead _ head => leading head == Config.headOpener
  | .frameTail _ tail => leading tail == Config.tailOpener
  | .fillUnit _ fill => leading fill == Config.fillOpener
  | .referencePulse order => decide order.Nodup
  | .lossDeadlineExpiry order => decide order.Nodup
  | .tickTimerExpiry order => decide order.Nodup
  | .holdoverLimitReached order => decide order.Nodup
  | .powerOnReset _ | .pcieLinkReset _ | .start | .stop | .reset | .causeWrite _ | .enableWrite _
  | .registerWrite _ _ _ | .headerReadReturn _ | .busError _ | .readTimeout _ | .silenceExpiry _
  | .verifyMark _ _ _ | .partnerWaitExpiry | .takeCloseCompletion | .sampleMessage _ _ _
  | .messageDeadlineExpiry _ | .measurementBegin | .measurementDone | .deliveryStart | .copyCompletion _
  | .recordWriteAccepted | .consumedReadReturn _ | .statusWriteAccepted | .drainingEndReached
  | .endOfDraining | .cueFetchReturn _ | .faultRecordPlaced | .holdRelease | .park | .pad | .jump | .call
  | .returnCue | .eyeCue | .format | .orient | .probes | .link | .matchCue | .track | .samples | .pace
  | .target | .recall | .openTake | .closeTake | .note | .waitCue | .waitEnd | .sampleCharacter _ _ _
  | .configurationAccess _ _ => true

end Sys2Proof
end

