-- ==== Sys2Proof/Decode.lean ====
section
/-! DEFINITION. The table's words. spec/opcode_table.json gives no row any bits (every row's "fields" is empty
and none has "fixed"), so no word spells a command (log 29). The bytes of a cue, which do have an encoding, are
decoded by the Cue Reader itself: see Machine/Operands.lean and Machine/Reader.lean. -/

namespace Sys2Proof

/-- The command a word spells by the table's bits: none, since the table gives no row bits. -/
def decodeTableWord (_nbits _w : Nat) : Option Instr := none

end Sys2Proof
end

