-- ==== Sys2Proof/Machine/State.lean ====
section
/-! DEFINITION. The state of the SP40, block by block as the manual divides it (00, Block overview), the queue
of commands that wait, and the machine right after reset. Every field names the rule that gives it; INVENTORY.md
lists them all with their reset values. A field marked (model) is the model's own. -/

namespace Sys2Proof.Machine

/-! ### Faults and refusals -/

/-- No step of the part stops it: every event of the table has a stated effect in every state (an error of the
host or of a camera head is counted, or leads to HALTED or FAULTED, R156, R196). No constructor. -/
inductive Fault where
deriving DecidableEq, Repr

/-- The one refusal is the host's: a command not modelled yet. No arm of exec uses it. Safe. -/
inductive Refusal where
  | notModelled (mnemonic : String)
deriving DecidableEq, Repr

/-! ### Straps and settings -/

/-- RIG_MODE (R188). -/
inductive RigMode where
  | parallel
  | mirrorLeft
  | mirrorRight
deriving DecidableEq, Repr

/-- The straps as last sampled (R188). -/
structure Straps where
  rigMode : RigMode
  /-- SLOTS: true for FULL, false for HALF. -/
  slotsFull : Bool
  /-- REFERENCE: true for PRESENT, false for ABSENT. -/
  referencePresent : Bool
deriving DecidableEq, Repr

/-- Bits per pixel (R169). -/
inductive Depth where
  | ten
  | twelve
  | sixteen
deriving DecidableEq, Repr

/-- How the two pictures lie in a target (R118). -/
inductive Packing where
  | sequential
  | rowPaired
deriving DecidableEq, Repr

/-- The FORMAT setting (R169). -/
structure FormatSetting where
  depth : Depth
  packing : Packing
  width : Nat
  height : Nat
deriving DecidableEq, Repr

/-- An eye's orientation (R117). -/
inductive Orientation where
  | normal
  | flipRows
  | flipColumns
  | rotate180
deriving DecidableEq, Repr

/-- The PROBES setting (R93). -/
structure ProbeSetting where
  rows : List Nat
  range : Nat
deriving DecidableEq, Repr

/-- The orphan policy (R57). -/
inductive OrphanPolicy where
  | drop
  | single
  | double
deriving DecidableEq, Repr

/-- The MATCH setting (R69). -/
structure MatchSetting where
  window : Nat
  partnerWait : Nat
  policy : OrphanPolicy
  skewLimit : Nat
deriving DecidableEq, Repr

/-- The TRACK mode (R94). -/
inductive TrackMode where
  | auto
  | fixed
deriving DecidableEq, Repr

/-- The TRACK setting (R94). -/
structure TrackSetting where
  mode : TrackMode
  settleCount : Nat
  floor : Nat
  fixedOffset : Int
  fill : BitVec 16
deriving DecidableEq, Repr

/-- The SAMPLES setting (R90). -/
structure SampleSetting where
  lead : Nat
  maxAge : Nat
deriving DecidableEq, Repr

/-- The PACE setting (R46). -/
structure PaceSetting where
  freePeriod : Nat
  holdoverLimit : Nat
deriving DecidableEq, Repr

/-- All settings (R162). -/
structure Settings where
  format : FormatSetting
  orientLeft : Orientation
  orientRight : Orientation
  probes : ProbeSetting
  linkLeft : Bool
  linkRight : Bool
  matching : MatchSetting
  track : TrackSetting
  samples : SampleSetting
  pace : PaceSetting
deriving DecidableEq, Repr

/-! ### Register Window and Bus Port -/

/-- The run state (10, Run states and commands). -/
inductive RunState where
  | idle
  | starting
  | running
  | draining
  | halted
deriving DecidableEq, Repr

/-- The halt reason of STATE (10, The registers). -/
inductive HaltReason where
  | noReason
  | headerInvalid
  | busError
deriving DecidableEq, Repr

/-- The last command outcome of STATE (R189). -/
inductive CommandOutcome where
  | noCommand
  | accepted
  | refused
deriving DecidableEq, Repr

/-- What a valid header latches (R192). -/
structure Bases where
  cueBase : BitVec 64
  cueSize : Nat
  ringBase : BitVec 64
  ringEntries : Nat
  statusBase : BitVec 64
  consumedAddress : BitVec 64
deriving DecidableEq, Repr

/-- One host read in flight: the address it reads, and its issue stamp (R195, R196). -/
structure HostRead where
  address : BitVec 64
  issued : Stamp
deriving DecidableEq, Repr

/-- The Register Window (R187 to R199). -/
structure RegisterWindow where
  run : RunState
  halt : HaltReason
  outcome : CommandOutcome
  cause : BitVec 9
  enable : BitVec 9
  exchangeLo : BitVec 32
  exchangeHi : BitVec 32
  bases : Bases
  /-- This STARTING began in HALTED (R95, R190). -/
  startedHalted : Bool
  /-- This DRAINING began in STARTING (R193). -/
  drainedStarting : Bool
  /-- The header read in flight (R191). -/
  headerRead : Option HostRead
  /-- MSI enable of the PCIe configuration (R199). -/
  msiEnable : Bool
  /-- Bus mastering of the PCIe configuration (R196, R199). -/
  busMaster : Bool
deriving DecidableEq, Repr

/-- One write to host memory: its address and its bytes. -/
structure HostWrite where
  address : Nat
  bytes : List Byte
deriving DecidableEq, Repr

/-- What the Bus Port was given, in order (model; log 19). -/
inductive BusItem where
  /-- An accepted write, which the Bus Port carries to host memory (R195). -/
  | write (w : HostWrite)
  /-- One MSI message (R198). -/
  | msi
  /-- Writes abandoned in flight, of which any part may have landed (R122, R199, R202). -/
  | abandoned (ws : List HostWrite)
deriving DecidableEq, Repr

/-! ### Camera links and the Frame Store -/

/-- The sync state (R3 to R11). -/
inductive SyncState where
  | off
  | hunt
  | verify
  | rowLock
  | frameLock
deriving DecidableEq, Repr

/-- The per-eye counters (R19). -/
structure LinkCounters where
  slips : Counter
  mismatches : Counter
  cuts : Counter
  headDamaged : Counter
  flawed : Counter
  damagedRows : Counter
  countGaps : Counter
deriving DecidableEq, Repr

/-- A frame being filled (R13 to R17): its slot and what the receiver notes at its Frame Head. -/
structure Filling where
  slot : Nat
  rowsReceived : Nat
  frameCheck : BitVec 32
  /-- The output rows this eye profiles (R16). -/
  profileRows : List Nat
  orientation : Orientation
  format : FormatSetting
deriving DecidableEq, Repr

/-- One Link Receiver (R1 to R20). -/
structure Receiver where
  sync : SyncState
  rowLength : Option Nat
  /-- Newest first; true is good (R6). -/
  history : List Bool
  silence : Nat
  /-- (model) A pace tick produced that this receiver has not taken yet (log 5). -/
  tickOwed : Bool
  foundPosition : Nat
  nextPosition : Nat
  /-- The first byte not yet examined (R4). -/
  scanFrom : Nat
  furtherMarks : Nat
  rowNumber : Nat
  /-- A Frame Head or Frame Tail has been taken since the previous row position (R6). -/
  boundary : Bool
  expectation : Option (BitVec 16)
  filling : Option Filling
  counters : LinkCounters
deriving DecidableEq, Repr

/-- The flaw set (R17). -/
structure Flaws where
  tailMissing : Bool
  rowCount : Bool
  frameCheck : Bool
deriving DecidableEq, Repr

/-- One profile, in output orientation (R16). -/
structure RowProfile where
  row : Nat
  samples : List Nat
  damaged : Bool
deriving DecidableEq, Repr

/-- The frame record (R23); a row without a profile in the list has an absent profile. -/
structure FrameRecord where
  eye : Eye
  frameCount : BitVec 16
  captureStamp : Stamp
  countGap : Option (BitVec 16)
  damagedRows : Nat
  flaws : Flaws
  profiles : List RowProfile
deriving DecidableEq, Repr

/-- One slot's state, with the frame record it carries (R22, R23). -/
inductive Slot where
  | free
  | filling (frame : FrameRecord)
  | queued (frame : FrameRecord)
  | held (frame : FrameRecord)
deriving DecidableEq, Repr

/-- Slot memory: (address, byte) pairs, addresses rising, no zero byte; an unlisted address reads 0 (R21). -/
abbrev Memory := List Host.Cell

/-- The Frame Store (R21 to R36). -/
structure FrameStore where
  slots : List Slot
  leftQueue : List Nat
  rightQueue : List Nat
  flushed : Counter
  mem : Memory
deriving DecidableEq, Repr

/-! ### Pace Generator -/

/-- The pace state (R40 to R44). -/
inductive PaceState where
  | free
  | referenced
  | holdover
deriving DecidableEq, Repr

/-- Something due `wait` microseconds after the stamp `base`. -/
structure Timer where
  base : Stamp
  wait : Nat
deriving DecidableEq, Repr

/-- The Pace Generator with the Stamp Counter (R37 to R49). -/
structure PaceGenerator where
  stamp : Stamp
  state : PaceState
  measured : Option Nat
  previousPulse : Option Stamp
  runCount : Nat
  runBase : Option Nat
  holdoverCount : Nat
  inconsistent : Counter
  timer : Option Timer
  deadline : Option Timer
  /-- (model) The stamp at which the last timer tick was produced: a pulse or a PACE cue taken at the same stamp meets
  that tick (R40, R46; log 34). -/
  tickAt : Option Stamp
  /-- (model) The lock run that the last entry to FREE dropped, until the next FREE tick or lock: it marks that the last
  timer tick ended HOLDOVER (R40, R46; log 34). -/
  droppedRun : Option (Nat × Option Nat)
deriving DecidableEq, Repr

/-! ### Pair Matcher -/

/-- The matcher state (R50). -/
inductive MatcherState where
  | stopped
  | acquire
  | tracking
deriving DecidableEq, Repr

/-- A queue head's partner-wait count and expired mark (R55). -/
structure WaitMark where
  count : Nat
  expired : Bool
deriving DecidableEq, Repr

/-- The skew alarm (R68). -/
inductive Alarm where
  | armed
  | fired
deriving DecidableEq, Repr

/-- The take state (R71). -/
inductive TakeState where
  | closed
  | opened
  | closing
deriving DecidableEq, Repr

/-- What an entry holds of one eye's frame (R61). -/
structure EntryEye where
  slot : Nat
  captureStamp : Stamp
  frameCount : BitVec 16
  countGap : Option (BitVec 16)
deriving DecidableEq, Repr

/-- PAIR with its skew, or ORPHAN with its eye and whether it is a DOUBLE (R61, R63). -/
inductive EntryKind where
  | pair (skew : Int)
  | orphan (eye : Eye) (double : Bool)
deriving DecidableEq, Repr

/-- DELIVER or RELEASE (R63). -/
inductive Disposition where
  | deliver
  | release
deriving DecidableEq, Repr

/-- The state of an entry (R61). -/
inductive EntryState where
  | measuring
  | ready
  | delivering
deriving DecidableEq, Repr

/-- A measured offset with its confidence (R97). -/
structure Measurement where
  offset : Int
  confidence : Nat
deriving DecidableEq, Repr

/-- One pair table entry (R61). -/
structure Entry where
  unit : BitVec 32
  kind : EntryKind
  left : Option EntryEye
  right : Option EntryEye
  takeNumber : Option (BitVec 32)
  leftLens : Option (BitVec 64)
  rightLens : Option (BitVec 64)
  rig : Option (BitVec 64)
  measurement : Option Measurement
  /-- Absent while not yet set (R62). -/
  applied : Option Int
  /-- DELIVER entries only (R60). -/
  droppedSince : Option Nat
  disposition : Disposition
  state : EntryState
deriving DecidableEq, Repr

/-- The Pair Matcher (R50 to R80). -/
structure PairMatcher where
  state : MatcherState
  table : List Entry
  nextUnit : BitVec 32
  leftMark : WaitMark
  rightMark : WaitMark
  /-- (model) A pace tick produced that the matcher has not taken yet (log 5). -/
  tickOwed : Bool
  skew : Int
  alarm : Alarm
  droppedSince : Nat
  take : TakeState
  takeNumber : BitVec 32
  openStamp : Stamp
  closeStamp : Option Stamp
  takeRecords : Counter
  pairsFormed : Counter
  orphansFormed : Counter
  orphansDropped : Counter
deriving DecidableEq, Repr

/-! ### Sample Ports -/

/-- The reception state (R81). -/
inductive Reception where
  | awaiting
  /-- The start stamp and the bytes taken so far, the start byte first. -/
  | collecting (start : Stamp) (bytes : List Byte)
deriving DecidableEq, Repr

/-- One sample: its stamp and its eight value bytes (R83, R84). -/
structure Sample where
  stamp : Stamp
  values : BitVec 64
deriving DecidableEq, Repr

/-- One sample port (R81 to R92); the stack stands oldest first. -/
structure SamplePort where
  reception : Reception
  stack : List Sample
  bad : Counter
  overruns : Counter
deriving DecidableEq, Repr

/-! ### Alignment Unit -/

/-- A measurement in progress: what it read at its beginning (R95). -/
structure InProgress where
  unit : BitVec 32
  rows : List Nat
  range : Nat
  left : List RowProfile
  right : List RowProfile
  begun : Stamp
deriving DecidableEq, Repr

/-- The Alignment Unit (R93 to R109); absent means IDLE. -/
structure AlignmentUnit where
  busy : Option InProgress
  /-- (model) An occasion of R95 has come since the last beginning. -/
  looking : Bool
  offset : Int
  candidate : Option Int
  agreement : Nat
  valid : Counter
  invalid : Counter
  settles : Counter
deriving DecidableEq, Repr

/-! ### Delivery Engine and Result Writer -/

/-- One target (R110). -/
structure Target where
  tag : BitVec 16
  size : BitVec 32
  address : BitVec 64
deriving DecidableEq, Repr

/-- A delivery in flight: its target, what the engine notes at the start (R115), and how many of its writes the Bus
Port has accepted (R119, R195). -/
structure Copy where
  target : Target
  format : FormatSetting
  orientLeft : Orientation
  orientRight : Orientation
  fill : BitVec 16
  accepted : Nat
deriving DecidableEq, Repr

/-- The Delivery Engine (R110 to R122); no copy means IDLE. -/
structure DeliveryEngine where
  targets : List Target
  copy : Option Copy
  pairs : Counter
  singles : Counter
  doubles : Counter
  short : Counter
deriving DecidableEq, Repr

/-- The cue faults (R156). -/
inductive FaultCode where
  | unknownCue
  | windowEnd
  | jumpRange
  | callDepth
  | returnEmpty
  | prefixTwice
  | prefixMisplaced
  | badValue
  | formatTooLarge
  | takeNested
  | noTake
deriving DecidableEq, Repr

/-- One eye's fields of a delivery record (R121). -/
structure EyeFields where
  captureStamp : Stamp
  frameCount : BitVec 16
  countGap : Option (BitVec 16)
  damagedRows : Nat
  flaws : Flaws
deriving DecidableEq, Repr

/-- A PAIR, SINGLE or DOUBLE record as fixed at its placement (R121). -/
structure DeliveryRecord where
  kind : EntryKind
  tag : BitVec 16
  droppedSince : Nat
  unit : BitVec 32
  takeNumber : Option (BitVec 32)
  left : Option EyeFields
  right : Option EyeFields
  applied : Int
  measurement : Option Measurement
  leftLens : Option (BitVec 64)
  rightLens : Option (BitVec 64)
  rig : Option (BitVec 64)
deriving DecidableEq, Repr

/-- A record of the pending-results queue (07, the record kinds; R121). -/
inductive ResultRecord where
  | delivery (d : DeliveryRecord)
  | note (value : BitVec 32)
  | takeOpened (number : BitVec 32) (openStamp : Stamp)
  | takeClosed (number : BitVec 32) (openStamp closeStamp : Stamp) (count : Counter)
  | targetShort (tag : BitVec 16) (size : BitVec 32) (unit : BitVec 32)
  | targetsRecalled (count : Nat) (first last : BitVec 16)
  | cueFault (code : FaultCode) (cursor : Nat)
deriving DecidableEq, Repr

/-- The writer state (07, The Result Writer). -/
inductive WriterState where
  | stopped
  | idle
  | writing
  | checking
  | waiting
deriving DecidableEq, Repr

/-- The final status write of DRAINING (R131, R194). -/
inductive FinalStatus where
  | notReached
  | issued
  | accepted
deriving DecidableEq, Repr

/-- The Result Writer with the pending-results queue (R123 to R134). -/
structure ResultWriter where
  state : WriterState
  held : List ResultRecord
  reserved : Nat
  nextSerial : BitVec 32
  lastSerial : BitVec 32
  consumed : BitVec 32
  recordWrite : Option HostWrite
  consumedRead : Option HostRead
  statusWrite : Option HostWrite
  /-- The writer's accesses in flight, in the order it presented them (R195). -/
  presented : List Access
  statusSerial : BitVec 32
  final : FinalStatus
  unwritten : Nat
  recordsWritten : Counter
  roomWaits : Counter
  statusSkipped : Counter
deriving DecidableEq, Repr

/-! ### Cue Reader -/

/-- The eye a cue names (R167). -/
inductive EyeChoice where
  | both
  | only (eye : Eye)
deriving DecidableEq, Repr

/-- The hold reasons (R148). -/
inductive HoldReason where
  | targetRoom
  | resultRoom
  | takeClosing
  | takeActive
deriving DecidableEq, Repr

/-- The wait conditions (R151). -/
inductive WaitCondition where
  | lock
  | pairs (n : Nat)
  | ticks (n : Nat)
  | takeClosed
deriving DecidableEq, Repr

/-- The reader state with its reason (08, Reader states). -/
inductive ReaderState where
  | off
  | running
  | stalled
  | held (reason : HoldReason)
  /-- `ended` (model): the report that meets the condition has come (log 7). -/
  | waiting (condition : WaitCondition) (count : Nat) (ended : Bool)
  | parked
  /-- `unplaced`: the fault-record mark (R157). -/
  | faulted (code : FaultCode) (unplaced : Bool)
deriving DecidableEq, Repr

/-- A cue fetch in flight (R137, R154): its sequence, the window offset and the host address it reads. -/
structure Fetch where
  sequence : Nat
  offset : Nat
  address : BitVec 64
  issued : Stamp
  reLook : Bool
deriving DecidableEq, Repr

/-- The Cue Reader (R135 to R160); the valid count v is the length of the buffer. -/
structure CueReader where
  state : ReaderState
  buffer : List Byte
  cursor : Nat
  fetchPointer : Nat
  skip : Nat
  sequence : Nat
  fetch : Option Fetch
  eyePrefix : Option EyeChoice
  stack : List Nat
  executed : Counter
  reLooks : Counter
deriving DecidableEq, Repr

/-! ### The state -/

/-- The SP40 and the commands that wait for it. -/
structure State where
  pending : List Instr
  straps : Straps
  settings : Settings
  regs : RegisterWindow
  carried : List BusItem
  left : Receiver
  right : Receiver
  store : FrameStore
  pace : PaceGenerator
  matcher : PairMatcher
  leftLens : SamplePort
  rightLens : SamplePort
  rig : SamplePort
  align : AlignmentUnit
  delivery : DeliveryEngine
  writer : ResultWriter
  reader : CueReader
deriving DecidableEq, Repr

/-! ### Reset values -/

/-- The pool size by the SLOTS strap (R21). -/
def Straps.poolSize (p : Straps) : Nat := if p.slotsFull then Config.slotsFull else Config.slotsHalf

/-- The settings after any reset (R162); ORIENT by the RIG_MODE strap (R117). -/
def Settings.defaults (p : Straps) : Settings where
  format := { depth := .twelve, packing := .sequential, width := 4096, height := 2160 }
  orientLeft := if p.rigMode = .mirrorLeft then .flipRows else .normal
  orientRight := if p.rigMode = .mirrorRight then .flipRows else .normal
  probes := { rows := [], range := 0 }
  linkLeft := true
  linkRight := true
  matching := { window := 500, partnerWait := 2, policy := .drop, skewLimit := 250 }
  track := { mode := .auto, settleCount := 3, floor := 64, fixedOffset := 0, fill := 0#16 }
  samples := { lead := 2000, maxAge := 50000 }
  pace := { freePeriod := Config.defaultFreePeriod, holdoverLimit := 240 }

/-- Counters at 0 (R19). -/
def LinkCounters.zero : LinkCounters := ⟨0#32, 0#32, 0#32, 0#32, 0#32, 0#32, 0#32⟩

/-- A receiver after any reset and in IDLE (R20); positions and marks DESIGN CHOICE 0 (log 11). -/
def Receiver.reset : Receiver where
  sync := .off
  rowLength := none
  history := []
  silence := 0
  tickOwed := false
  foundPosition := 0
  nextPosition := 0
  scanFrom := 0
  furtherMarks := 0
  rowNumber := 0
  boundary := false
  expectation := none
  filling := none
  counters := LinkCounters.zero

/-- The Frame Store after a reset, over the slot memory given (R36). -/
def FrameStore.reset (p : Straps) (mem : Memory) : FrameStore where
  slots := List.replicate p.poolSize .free
  leftQueue := []
  rightQueue := []
  flushed := 0#32
  mem := mem

/-- The Pace Generator after any reset (R49). -/
def PaceGenerator.reset : PaceGenerator where
  stamp := 0#48
  state := .free
  measured := none
  previousPulse := none
  runCount := 0
  runBase := none
  holdoverCount := 0
  inconsistent := 0#32
  timer := some { base := 0#48, wait := Config.defaultFreePeriod }
  deadline := none
  tickAt := none
  droppedRun := none

/-- A partner-wait count of 0 and no expired mark (R55). -/
def WaitMark.clear : WaitMark := ⟨0, false⟩

/-- The Pair Matcher after any reset (R79). -/
def PairMatcher.reset : PairMatcher where
  state := .stopped
  table := []
  nextUnit := 1#32
  leftMark := WaitMark.clear
  rightMark := WaitMark.clear
  tickOwed := false
  skew := 0
  alarm := .armed
  droppedSince := 0
  take := .closed
  takeNumber := 0#32
  openStamp := 0#48
  closeStamp := some 0#48
  takeRecords := 0#32
  pairsFormed := 0#32
  orphansFormed := 0#32
  orphansDropped := 0#32

/-- A sample port after any reset (R92). -/
def SamplePort.reset : SamplePort := ⟨.awaiting, [], 0#32, 0#32⟩

/-- The Alignment Unit after any reset (R109). -/
def AlignmentUnit.reset : AlignmentUnit where
  busy := none
  looking := false
  offset := 0
  candidate := none
  agreement := 0
  valid := 0#32
  invalid := 0#32
  settles := 0#32

/-- The Delivery Engine after any reset (R134). -/
def DeliveryEngine.reset : DeliveryEngine := ⟨[], none, 0#32, 0#32, 0#32, 0#32⟩

/-- The Result Writer after any reset (R134). -/
def ResultWriter.reset : ResultWriter where
  state := .stopped
  held := []
  reserved := 0
  nextSerial := 1#32
  lastSerial := 0#32
  consumed := 0#32
  recordWrite := none
  consumedRead := none
  statusWrite := none
  presented := []
  statusSerial := 0#32
  final := .notReached
  unwritten := 0
  recordsWritten := 0#32
  roomWaits := 0#32
  statusSkipped := 0#32

/-- The Cue Reader after any reset (R160). -/
def CueReader.reset : CueReader where
  state := .off
  buffer := []
  cursor := 0
  fetchPointer := 0
  skip := 0
  sequence := 0
  fetch := none
  eyePrefix := none
  stack := []
  executed := 0#32
  reLooks := 0#32

/-- The latched bases before the first valid START: DESIGN CHOICE 0, log 11. -/
def Bases.zero : Bases := ⟨0#64, 0, 0#64, 0, 0#64, 0#64⟩

/-- The Register Window after a power-on reset (10, The registers; R199). -/
def RegisterWindow.reset : RegisterWindow where
  run := .idle
  halt := .noReason
  outcome := .noCommand
  cause := 0#9
  enable := 0#9
  exchangeLo := 0#32
  exchangeHi := 0#32
  bases := Bases.zero
  startedHalted := false
  drainedStarting := false
  headerRead := none
  msiEnable := false
  busMaster := false

/-- The part right after a power-on reset with the straps given (R199). -/
def State.powerOn (p : Straps) : State where
  pending := []
  straps := p
  settings := Settings.defaults p
  regs := RegisterWindow.reset
  carried := []
  left := Receiver.reset
  right := Receiver.reset
  store := FrameStore.reset p []
  pace := PaceGenerator.reset
  matcher := PairMatcher.reset
  leftLens := SamplePort.reset
  rightLens := SamplePort.reset
  rig := SamplePort.reset
  align := AlignmentUnit.reset
  delivery := DeliveryEngine.reset
  writer := ResultWriter.reset
  reader := CueReader.reset

/-- The straps of the machine State.reset shows: PARALLEL, FULL, PRESENT; DESIGN CHOICE, log 10. -/
def Straps.shown : Straps := ⟨.parallel, true, true⟩

/-- The machine right after reset. -/
def State.reset : State := State.powerOn Straps.shown

/-! ### Updates, one a block -/

/-- Change the settings. -/
def State.onSettings (s : State) (f : Settings → Settings) : State := { s with settings := f s.settings }
/-- Change the Register Window. -/
def State.onRegs (s : State) (f : RegisterWindow → RegisterWindow) : State := { s with regs := f s.regs }
/-- Change the Frame Store. -/
def State.onStore (s : State) (f : FrameStore → FrameStore) : State := { s with store := f s.store }
/-- Change the Pace Generator. -/
def State.onPace (s : State) (f : PaceGenerator → PaceGenerator) : State := { s with pace := f s.pace }
/-- Change the Pair Matcher. -/
def State.onMatcher (s : State) (f : PairMatcher → PairMatcher) : State := { s with matcher := f s.matcher }
/-- Change the Alignment Unit. -/
def State.onAlign (s : State) (f : AlignmentUnit → AlignmentUnit) : State := { s with align := f s.align }
/-- Change the Delivery Engine. -/
def State.onDelivery (s : State) (f : DeliveryEngine → DeliveryEngine) : State :=
  { s with delivery := f s.delivery }
/-- Change the Result Writer. -/
def State.onWriter (s : State) (f : ResultWriter → ResultWriter) : State := { s with writer := f s.writer }
/-- Change the Cue Reader. -/
def State.onReader (s : State) (f : CueReader → CueReader) : State := { s with reader := f s.reader }
/-- Give one more item to the Bus Port's carried list. -/
def State.carry (s : State) (b : BusItem) : State := { s with carried := s.carried ++ [b] }

/-- One eye's receiver. -/
def State.receiver (s : State) : Eye → Receiver
  | .left => s.left
  | .right => s.right

/-- Change one eye's receiver. -/
def State.onReceiver (s : State) (e : Eye) (f : Receiver → Receiver) : State :=
  match e with
  | .left => { s with left := f s.left }
  | .right => { s with right := f s.right }

/-- One sample port. -/
def State.port (s : State) : PortId → SamplePort
  | .leftLens => s.leftLens
  | .rightLens => s.rightLens
  | .rig => s.rig

/-- Change one sample port. -/
def State.onPort (s : State) (p : PortId) (f : SamplePort → SamplePort) : State :=
  match p with
  | .leftLens => { s with leftLens := f s.leftLens }
  | .rightLens => { s with rightLens := f s.rightLens }
  | .rig => { s with rig := f s.rig }

end Sys2Proof.Machine
end

