-- ==== Sys2Proof/Machine/Flags.lean ====
section
/-! DEFINITION. The flags of the register window: the nine causes, the interrupt request and its MSI message
(R197, R198), and the values IDENT and STATE read (10, The registers). Saturating counts stand here too. -/

namespace Sys2Proof.Machine

/-- A 32-bit count increased by `n`, staying at its largest value (00, Conventions). -/
def Counter.add (c : Counter) (n : Nat) : Counter := BitVec.ofNat 32 (min (c.toNat + n) 4294967295)

/-- A 32-bit count increased by one. -/
def Counter.inc (c : Counter) : Counter := Counter.add c 1

/-- A count of 0..65,535 increased by one, staying at 65,535 (R43, R60). -/
def inc16 (n : Nat) : Nat := min (n + 1) 65535

/-- The causes (R197). -/
inductive Cause where
  | result
  | parked
  | cueFault
  | link
  | pace
  | skew
  | slip
  | ringFull
  | halt
deriving DecidableEq, Repr

/-- The bit of a cause in CAUSE and ENABLE (10, The registers). -/
def Cause.bit : Cause → BitVec 9
  | .result => 0x001#9
  | .parked => 0x002#9
  | .cueFault => 0x004#9
  | .link => 0x008#9
  | .pace => 0x010#9
  | .skew => 0x020#9
  | .slip => 0x040#9
  | .ringFull => 0x080#9
  | .halt => 0x100#9

/-- The interrupt request: a bit set in both CAUSE and ENABLE (R198). -/
def RegisterWindow.request (r : RegisterWindow) : Bool := r.cause &&& r.enable != 0#9

/-- Change CAUSE and ENABLE; an assertion of the request sends one MSI message if the host has enabled MSI,
and the message is dropped with bus mastering off (R198). -/
def State.setIrq (s : State) (cause enable : BitVec 9) : State :=
  let s' := s.onRegs fun r => { r with cause := cause, enable := enable }
  if !s.regs.request && s'.regs.request && s.regs.msiEnable && s.regs.busMaster then s'.carry .msi else s'

/-- A source block sets its cause (R197). -/
def State.setCause (s : State) (c : Cause) : State := s.setIrq (s.regs.cause ||| c.bit) s.regs.enable

/-- Part code by the RIG_MODE strap (10, The registers). -/
def RigMode.partCode : RigMode → Nat
  | .parallel => 0x4A40
  | .mirrorLeft => 0x4A41
  | .mirrorRight => 0x4A42

/-- IDENT: vendor code, part code, SLOTS strap, revision 1 (10, The registers). -/
def Straps.ident (p : Straps) : BitVec 32 :=
  BitVec.ofNat 32 (Config.vendorCode + p.rigMode.partCode * 2 ^ 15 +
    (if p.slotsFull then 0 else 2 ^ 30) + 2 ^ 31)

/-- The code of a run state in STATE and in the status block. -/
def RunState.code : RunState → Nat
  | .idle => 0
  | .starting => 1
  | .running => 2
  | .draining => 3
  | .halted => 4

/-- The code of a halt reason in STATE. -/
def HaltReason.code : HaltReason → Nat
  | .noReason => 0
  | .headerInvalid => 1
  | .busError => 2

/-- The code of a command outcome in STATE. -/
def CommandOutcome.code : CommandOutcome → Nat
  | .noCommand => 0
  | .accepted => 1
  | .refused => 2

/-- STATE: run state, halt reason, last command outcome (10, The registers). -/
def RegisterWindow.stateWord (r : RegisterWindow) : BitVec 32 :=
  BitVec.ofNat 32 (r.run.code + r.halt.code * 16 + r.outcome.code * 256)

/-- The register at an offset, as a 32-bit read finds it; CONTROL and offset 0x14 read 0 (R187). -/
def State.registerAt (s : State) (word : Nat) : BitVec 32 :=
  match word with
  | 0 => s.straps.ident
  | 1 => s.regs.stateWord
  | 3 => s.regs.cause.setWidth 32
  | 4 => s.regs.enable.setWidth 32
  | 6 => s.regs.exchangeLo
  | 7 => s.regs.exchangeHi
  | _ => 0#32

/-- The bytes in an access. -/
def AccessWidth.bytes : AccessWidth → Nat
  | .byte => 1
  | .half => 2
  | .word => 4

/-- A host read of the window, of any width: the addressed bytes of the register at that offset (R187). It
changes nothing. -/
def State.registerRead (s : State) (offset : BitVec 5) (width : AccessWidth) : BitVec 32 :=
  BitVec.ofNat 32 ((s.registerAt (offset.toNat / 4)).toNat / 2 ^ (8 * (offset.toNat % 4)) %
    2 ^ (8 * AccessWidth.bytes width))

end Sys2Proof.Machine
end

