-- ==== Sys2Proof/Machine/Operands.lean ====
section
/-! DEFINITION. The operand forms: little-endian numbers, the camera link units and their checks (R1), pixel
packing (R203), probe-row profiles (R16), the exchange header (R192) and the cues with their field checks
(R140, R161, R200). -/

namespace Sys2Proof.Machine

/-! ### Little-endian numbers (00, Byte order) -/

/-- The number that bytes spell, the first byte least significant. -/
def natOf : List Byte → Nat
  | [] => 0
  | b :: bs => b.toNat + 256 * natOf bs

/-- `n` bytes of a number, the least significant first. -/
def leBytes : Nat → Nat → List Byte
  | 0, _ => []
  | n + 1, x => BitVec.ofNat 8 x :: leBytes n (x / 256)

/-- `n` bytes of a signed number in two's complement. -/
def leInt (n : Nat) (x : Int) : List Byte := leBytes n (BitVec.ofInt (8 * n) x).toNat

/-- The byte at a position; 0 beyond the end. -/
def byteAt (bs : List Byte) (i : Nat) : Byte := bs.getD i 0#8

/-- The number at a position, `w` bytes wide. -/
def fieldAt (bs : List Byte) (i w : Nat) : Nat := natOf ((bs.drop i).take w)

/-- The number of a signed byte (TRACK's fixed offset, R176). -/
def signedByte (b : Byte) : Int := b.toInt

/-! ### Formats -/

/-- Bits per pixel. -/
def Depth.bits : Depth → Nat
  | .ten => 10
  | .twelve => 12
  | .sixteen => 16

/-- The depth that a depth code names (R169, 11 Frame Head). -/
def depthOf (code : Nat) : Option Depth :=
  if code = 10 then some .ten else if code = 12 then some .twelve else if code = 16 then some .sixteen else none

/-- Row bytes: the width times the bytes per pixel (00, Frame dimensions). -/
def FormatSetting.rowBytes (f : FormatSetting) : Nat := f.width * f.depth.bits / 8

/-- The bytes a target needs, 2 × H × row bytes (R115). -/
def FormatSetting.targetBytes (f : FormatSetting) : Nat := 2 * f.height * f.rowBytes

/-- The link row length the format implies (R12). -/
def FormatSetting.linkRow (f : FormatSetting) : Nat := f.rowBytes + 10

/-! ### The camera link units (11; R1) -/

/-- The position begins with the mark pattern (R2). -/
def isMark (mark : BitVec 64) : Bool := leading mark == Config.markPattern

/-- The position begins with one of the three openers (R2). -/
def isOpener (mark : BitVec 64) : Bool :=
  leading mark == Config.headOpener || leading mark == Config.tailOpener || leading mark == Config.fillOpener

/-- The row number field of a Row Mark. -/
def markRow (mark : BitVec 64) : Nat := (mark.extractLsb' 32 16).toNat

/-- The mark check is good: the field equals 65,535 minus the row number field (R1). -/
def markCheck (mark : BitVec 64) : Bool := (mark.extractLsb' 48 16).toNat == 65535 - markRow mark

/-- The sum, modulo 65,536, of bytes taken as little-endian 16-bit words (R1). -/
def wordSum : List Byte → BitVec 16
  | a :: b :: rest => BitVec.ofNat 16 (a.toNat + 256 * b.toNat) + wordSum rest
  | _ => 0#16

/-- The row data of a row position: all of the rest but the two bytes of the row check. -/
def rowData (body : List Byte) : List Byte := body.take (body.length - 2)

/-- The row check the head sent. -/
def rowCheckSent (body : List Byte) : BitVec 16 := BitVec.ofNat 16 (fieldAt body (body.length - 2) 2)

/-- The row check is good (R1). -/
def rowCheckGood (body : List Byte) : Bool := rowCheckSent body == wordSum (rowData body)

/-- Frame Head: the frame count. -/
def headCount (h : BitVec 192) : BitVec 16 := h.extractLsb' 32 16
/-- Frame Head: the readout latency, µs. -/
def headLatency (h : BitVec 192) : Nat := (h.extractLsb' 48 16).toNat
/-- Frame Head: the declared width. -/
def headWidth (h : BitVec 192) : Nat := (h.extractLsb' 64 16).toNat
/-- Frame Head: the declared height. -/
def headHeight (h : BitVec 192) : Nat := (h.extractLsb' 80 16).toNat
/-- Frame Head: the declared depth code. -/
def headDepth (h : BitVec 192) : Nat := (h.extractLsb' 96 8).toNat

/-- The sum, modulo 65,536, of the first `n` 16-bit words of a unit. -/
def unitSum {w : Nat} (u : BitVec w) : Nat → BitVec 16
  | 0 => 0#16
  | n + 1 => unitSum u n + u.extractLsb' (16 * n) 16

/-- The head check is good: the field equals the sum of the 22 bytes before it as 16-bit words (R1). -/
def headCheckGood (h : BitVec 192) : Bool := h.extractLsb' 176 16 == unitSum h 11

/-- The declared values agree with the FORMAT setting (R12). -/
def headAgrees (h : BitVec 192) (f : FormatSetting) : Bool :=
  headWidth h == f.width && headHeight h == f.height && depthOf (headDepth h) == some f.depth

/-- Frame Tail: the rows sent. -/
def tailRows (t : BitVec 128) : Nat := (t.extractLsb' 32 16).toNat
/-- Frame Tail: the frame check. -/
def tailCheck (t : BitVec 128) : BitVec 32 := t.extractLsb' 64 32

/-! ### Pixel packing (R203) -/

/-- Pixels at 16 bits: one 2-byte group each. -/
def unpack16 : List Byte → List Nat
  | a :: b :: rest => natOf [a, b] :: unpack16 rest
  | _ => []

/-- Pixels at 12 bits: two in each 3-byte group. -/
def unpack12 : List Byte → List Nat
  | a :: b :: c :: rest => natOf [a, b, c] % 4096 :: natOf [a, b, c] / 4096 :: unpack12 rest
  | _ => []

/-- Pixels at 10 bits: four in each 5-byte group, pixel j in bits 10j+9 to 10j. -/
def unpack10 : List Byte → List Nat
  | a :: b :: c :: d :: e :: rest =>
      natOf [a, b, c, d, e] % 1024 :: natOf [a, b, c, d, e] / 1024 % 1024 ::
        natOf [a, b, c, d, e] / 1048576 % 1024 :: natOf [a, b, c, d, e] / 1073741824 % 1024 :: unpack10 rest
  | _ => []

/-- The pixels of row bytes. -/
def unpack : Depth → List Byte → List Nat
  | .sixteen, bs => unpack16 bs
  | .twelve, bs => unpack12 bs
  | .ten, bs => unpack10 bs

/-- Row bytes at 16 bits. -/
def pack16 : List Nat → List Byte
  | p :: rest => leBytes 2 (p % 65536) ++ pack16 rest
  | [] => []

/-- Row bytes at 12 bits. -/
def pack12 : List Nat → List Byte
  | p :: q :: rest => leBytes 3 (p % 4096 + 4096 * (q % 4096)) ++ pack12 rest
  | _ => []

/-- Row bytes at 10 bits. -/
def pack10 : List Nat → List Byte
  | p :: q :: r :: t :: rest =>
      leBytes 5 (p % 1024 + 1024 * (q % 1024) + 1048576 * (r % 1024) + 1073741824 * (t % 1024)) ++ pack10 rest
  | _ => []

/-- The row bytes of pixels. -/
def pack : Depth → List Nat → List Byte
  | .sixteen, ps => pack16 ps
  | .twelve, ps => pack12 ps
  | .ten, ps => pack10 ps

/-! ### Orientation (R16, R117) -/

/-- The orientation reverses the order of rows. -/
def Orientation.flipsRows : Orientation → Bool
  | .flipRows | .rotate180 => true
  | .normal | .flipColumns => false

/-- The orientation reverses the order of pixels within a row. -/
def Orientation.flipsColumns : Orientation → Bool
  | .flipColumns | .rotate180 => true
  | .normal | .flipRows => false

/-- The stored row of an output row, and the output row of a stored row (R16, R117). -/
def Orientation.row (o : Orientation) (height r : Nat) : Nat := if o.flipsRows then height - 1 - r else r

/-! ### Profiles (R16) -/

/-- 32 band means, the fraction discarded, in pixel order. -/
def bandMeans (pixels : List Nat) (band : Nat) : List Nat :=
  (List.range 32).map fun i => ((pixels.drop (i * band)).take band).sum / band

/-- The 32 samples of a stored row, in output orientation (R16). -/
def profileSamples (f : FormatSetting) (o : Orientation) (data : List Byte) : List Nat :=
  let means := bandMeans (unpack f.depth data) (f.width / 32)
  if o.flipsColumns then means.reverse else means

/-- Measurement is enabled: at least 2 probe rows and W at least 1 (R93). -/
def ProbeSetting.enabled (p : ProbeSetting) : Bool := decide (2 ≤ p.rows.length) && decide (1 ≤ p.range)

/-- The output rows p − W to p + W that lie inside 0..H−1 (R16). -/
def rowsAround (range height p : Nat) : List Nat :=
  ((List.range (2 * range + 1)).filter fun i => decide (range ≤ p + i) && decide (p + i - range < height)).map
    fun i => p + i - range

/-- The output rows that an eye's receiver profiles (R16). -/
def profiledRows (p : ProbeSetting) (height : Nat) : Eye → List Nat
  | .left => if p.enabled then p.rows.filter fun r => decide (r < height) else []
  | .right => if p.enabled then p.rows.flatMap (rowsAround p.range height) else []

/-! ### The exchange header (11; R192) -/

/-- Cue window base. -/
def hdrCueBase (h : BitVec 512) : BitVec 64 := h.extractLsb' 0 64
/-- Cue window size. -/
def hdrCueSize (h : BitVec 512) : BitVec 32 := h.extractLsb' 64 32
/-- Ring entries E. -/
def hdrEntries (h : BitVec 512) : BitVec 32 := h.extractLsb' 96 32
/-- Ring base. -/
def hdrRingBase (h : BitVec 512) : BitVec 64 := h.extractLsb' 128 64
/-- Status base. -/
def hdrStatusBase (h : BitVec 512) : BitVec 64 := h.extractLsb' 192 64
/-- The 28 bytes that must be zero. -/
def hdrRest (h : BitVec 512) : BitVec 224 := h.extractLsb' 288 224

/-- Every field of the header is valid (10, START and the exchange header). -/
def headerValid (h : BitVec 512) : Bool :=
  hdrCueBase h != 0#64 && (hdrCueBase h).toNat % 64 == 0 &&
  (hdrCueSize h).toNat % 64 == 0 && decide (64 ≤ (hdrCueSize h).toNat) &&
  decide ((hdrCueSize h).toNat ≤ 1048576) &&
  decide ((hdrCueBase h).toNat + (hdrCueSize h).toNat ≤ 2 ^ 64) &&
  hdrRingBase h != 0#64 && (hdrRingBase h).toNat % 128 == 0 &&
  [16, 32, 64, 128, 256, 512, 1024, 2048, 4096].contains (hdrEntries h).toNat &&
  decide ((hdrRingBase h).toNat + 128 * (hdrEntries h).toNat ≤ 2 ^ 64) &&
  hdrStatusBase h != 0#64 && (hdrStatusBase h).toNat % 64 == 0 &&
  decide ((hdrStatusBase h).toNat + 256 ≤ 2 ^ 64) &&
  hdrRest h == 0#224

/-- What a valid header latches, read at the exchange address (R192). -/
def headerBases (h : BitVec 512) (address : BitVec 64) : Bases where
  cueBase := hdrCueBase h
  cueSize := (hdrCueSize h).toNat
  ringBase := hdrRingBase h
  ringEntries := (hdrEntries h).toNat
  statusBase := hdrStatusBase h
  consumedAddress := address + BitVec.ofNat 64 Config.consumedOffset

/-! ### The cues (11, The cue encodings) -/

/-- The cues by name. -/
inductive CueName where
  | park
  | pad
  | jump
  | call
  | ret
  | eye
  | format
  | orient
  | probes
  | link
  | matching
  | track
  | samples
  | pace
  | target
  | recall
  | openTake
  | closeTake
  | note
  | wait
deriving DecidableEq, Repr

/-- The cue a code byte names (R140). -/
def cueName (code : Byte) : Option CueName :=
  if code = 0x00#8 then some .park
  else if code = 0x01#8 then some .pad
  else if code = 0x10#8 then some .jump
  else if code = 0x11#8 then some .call
  else if code = 0x12#8 then some .ret
  else if code = 0x18#8 then some .eye
  else if code = 0x20#8 then some .format
  else if code = 0x21#8 then some .orient
  else if code = 0x22#8 then some .probes
  else if code = 0x23#8 then some .link
  else if code = 0x30#8 then some .matching
  else if code = 0x31#8 then some .track
  else if code = 0x32#8 then some .samples
  else if code = 0x33#8 then some .pace
  else if code = 0x40#8 then some .target
  else if code = 0x41#8 then some .recall
  else if code = 0x50#8 then some .openTake
  else if code = 0x51#8 then some .closeTake
  else if code = 0x58#8 then some .note
  else if code = 0x5C#8 then some .wait
  else none

/-- A cue's length; PROBES at its least (R140). -/
def CueName.baseLength : CueName → Nat
  | .park | .pad | .ret | .recall | .closeTake => 1
  | .eye | .orient | .link => 2
  | .probes => 4
  | .jump | .call | .format | .track | .openTake | .note | .wait => 8
  | .matching | .samples | .pace => 12
  | .target => 16

/-- A cue's length, the PROBES count byte valid (R140). -/
def CueName.length (n : CueName) (bs : List Byte) : Nat :=
  if n = .probes then 4 + 2 * (byteAt bs 1).toNat else n.baseLength

/-- The cue's encoding may follow an eye prefix without consuming or breaking it (R147). -/
def CueName.mayFollowPrefix : CueName → Bool
  | .orient | .link | .pad | .park => true
  | _ => false

/-- The window-end test for a cue of length `len` at `cursor` (R140). -/
def CueName.fits (n : CueName) (cursor len size : Nat) : Bool :=
  match n with
  | .park | .ret => true
  | .jump => decide (cursor + 8 ≤ size)
  | _ => decide (cursor + len < size)

/-- A decoded cue with its values. -/
inductive Cue where
  | park
  | pad
  | jump (target : Nat)
  | call (target : Nat)
  | ret
  | eye (choice : EyeChoice)
  | format (f : FormatSetting)
  | orient (o : Orientation)
  | probes (p : ProbeSetting)
  | link (enable : Bool)
  | matching (m : MatchSetting)
  | track (t : TrackSetting)
  | samples (x : SampleSetting)
  | pace (p : PaceSetting)
  | target (t : Target)
  | recall
  | openTake (number : BitVec 32)
  | closeTake
  | note (value : BitVec 32)
  | wait (condition : WaitCondition)
deriving DecidableEq, Repr

/-- The name of a decoded cue. -/
def Cue.name : Cue → CueName
  | .park => .park
  | .pad => .pad
  | .jump _ => .jump
  | .call _ => .call
  | .ret => .ret
  | .eye _ => .eye
  | .format _ => .format
  | .orient _ => .orient
  | .probes _ => .probes
  | .link _ => .link
  | .matching _ => .matching
  | .track _ => .track
  | .samples _ => .samples
  | .pace _ => .pace
  | .target _ => .target
  | .recall => .recall
  | .openTake _ => .openTake
  | .closeTake => .closeTake
  | .note _ => .note
  | .wait _ => .wait

/-- What a cue's own bytes give: its values, or the fault of its first failing field (R161). -/
inductive FieldCheck where
  | good (c : Cue)
  | bad (code : FaultCode)
deriving DecidableEq, Repr

/-- Every byte of the positions listed holds 0 (R200). -/
def padsZero (bs : List Byte) (positions : List Nat) : Bool := positions.all fun i => byteAt bs i == 0#8

/-- The 32-bit field at a position. -/
def word32At (bs : List Byte) (i : Nat) : BitVec 32 := BitVec.ofNat 32 (fieldAt bs i 4)

/-- JUMP and CALL share their fields: three pads, then the target (R164, R165). -/
def targetField (bs : List Byte) (size : Nat) (mk : Nat → Cue) : FieldCheck :=
  if !padsZero bs [1, 2, 3] then .bad .badValue
  else if size ≤ fieldAt bs 4 4 then .bad .jumpRange
  else .good (mk (fieldAt bs 4 4))

/-- EYE (R167). -/
def eyeField (bs : List Byte) : FieldCheck :=
  match (byteAt bs 1).toNat with
  | 0 => .good (.eye .both)
  | 1 => .good (.eye (.only .left))
  | 2 => .good (.eye (.only .right))
  | _ => .bad .badValue

/-- FORMAT (R169): the fields in position order, then the frame size. -/
def formatFields (bs : List Byte) : FieldCheck :=
  match depthOf (byteAt bs 1).toNat with
  | none => .bad .badValue
  | some d =>
    if 1 < (byteAt bs 2).toNat then .bad .badValue
    else if !padsZero bs [3] then .bad .badValue
    else if fieldAt bs 4 2 < 256 ∨ 4096 < fieldAt bs 4 2 ∨ fieldAt bs 4 2 % 64 ≠ 0 then .bad .badValue
    else if fieldAt bs 6 2 < 128 ∨ 4096 < fieldAt bs 6 2 then .bad .badValue
    else if Config.slotBytes * 8 < fieldAt bs 4 2 * fieldAt bs 6 2 * d.bits then .bad .formatTooLarge
    else .good (.format
      { depth := d, packing := if (byteAt bs 2).toNat = 0 then .sequential else .rowPaired,
        width := fieldAt bs 4 2, height := fieldAt bs 6 2 })

/-- ORIENT (R171). -/
def orientField (bs : List Byte) : FieldCheck :=
  match (byteAt bs 1).toNat with
  | 0 => .good (.orient .normal)
  | 1 => .good (.orient .flipRows)
  | 2 => .good (.orient .flipColumns)
  | 3 => .good (.orient .rotate180)
  | _ => .bad .badValue

/-- The probe rows of a PROBES cue, in order. -/
def probeRows (bs : List Byte) : List Nat :=
  (List.range (byteAt bs 1).toNat).map fun i => fieldAt bs (4 + 2 * i) 2

/-- PROBES (R172), its count judged before. -/
def probesFields (bs : List Byte) (height : Nat) : FieldCheck :=
  if 16 < (byteAt bs 2).toNat then .bad .badValue
  else if !padsZero bs [3] then .bad .badValue
  else if !(probeRows bs).all (fun r => decide (r < height)) then .bad .badValue
  else if ¬ (probeRows bs).Nodup then .bad .badValue
  else .good (.probes { rows := probeRows bs, range := (byteAt bs 2).toNat })

/-- LINK (R174). -/
def linkField (bs : List Byte) : FieldCheck :=
  match (byteAt bs 1).toNat with
  | 0 => .good (.link false)
  | 1 => .good (.link true)
  | _ => .bad .badValue

/-- The orphan policy a code names (R175). -/
def policyOf (code : Nat) : Option OrphanPolicy :=
  if code = 0 then some .drop else if code = 1 then some .single else if code = 2 then some .double else none

/-- MATCH (R175). -/
def matchFields (bs : List Byte) : FieldCheck :=
  match policyOf (byteAt bs 1).toNat with
  | none => .bad .badValue
  | some p =>
    if (byteAt bs 2).toNat < 1 ∨ 8 < (byteAt bs 2).toNat then .bad .badValue
    else if !padsZero bs [3] then .bad .badValue
    else if fieldAt bs 4 4 < 1 ∨ 65535 < fieldAt bs 4 4 then .bad .badValue
    else if fieldAt bs 8 4 < 1 ∨ 65535 < fieldAt bs 8 4 then .bad .badValue
    else .good (.matching
      { window := fieldAt bs 4 4, partnerWait := (byteAt bs 2).toNat, policy := p, skewLimit := fieldAt bs 8 4 })

/-- TRACK (R176). -/
def trackFields (bs : List Byte) : FieldCheck :=
  if 1 < (byteAt bs 1).toNat then .bad .badValue
  else if (byteAt bs 2).toNat < 1 ∨ 8 < (byteAt bs 2).toNat then .bad .badValue
  else if signedByte (byteAt bs 3) < -16 ∨ 16 < signedByte (byteAt bs 3) then .bad .badValue
  else .good (.track
    { mode := if (byteAt bs 1).toNat = 0 then .auto else .fixed, settleCount := (byteAt bs 2).toNat,
      floor := fieldAt bs 4 2, fixedOffset := signedByte (byteAt bs 3),
      fill := BitVec.ofNat 16 (fieldAt bs 6 2) })

/-- SAMPLES (R177). -/
def samplesFields (bs : List Byte) : FieldCheck :=
  if !padsZero bs [1, 2, 3] then .bad .badValue
  else if 100000 < fieldAt bs 4 4 then .bad .badValue
  else if fieldAt bs 8 4 < 1000 ∨ 1000000 < fieldAt bs 8 4 then .bad .badValue
  else .good (.samples { lead := fieldAt bs 4 4, maxAge := fieldAt bs 8 4 })

/-- PACE (R178). -/
def paceFields (bs : List Byte) : FieldCheck :=
  if !padsZero bs [1, 2, 3] then .bad .badValue
  else if fieldAt bs 4 4 < 4000 ∨ 100000 < fieldAt bs 4 4 then .bad .badValue
  else if fieldAt bs 8 4 < 1 ∨ 65535 < fieldAt bs 8 4 then .bad .badValue
  else .good (.pace { freePeriod := fieldAt bs 4 4, holdoverLimit := fieldAt bs 8 4 })

/-- TARGET (R179). -/
def targetFields (bs : List Byte) : FieldCheck :=
  if !padsZero bs [1] then .bad .badValue
  else if fieldAt bs 8 8 = 0 ∨ fieldAt bs 8 8 % 64 ≠ 0 ∨ 2 ^ 64 < fieldAt bs 8 8 + fieldAt bs 4 4 then
    .bad .badValue
  else .good (.target
    { tag := BitVec.ofNat 16 (fieldAt bs 2 2), size := word32At bs 4, address := BitVec.ofNat 64 (fieldAt bs 8 8) })

/-- OPEN TAKE and NOTE share their fields: three pads, then a 32-bit value (R182, R184). -/
def valueField (bs : List Byte) (mk : BitVec 32 → Cue) : FieldCheck :=
  if !padsZero bs [1, 2, 3] then .bad .badValue else .good (mk (word32At bs 4))

/-- The argument of PAIRS and TICKS lies within 1..65,535 (R185). -/
def countedWait (n : Nat) (mk : Nat → WaitCondition) : FieldCheck :=
  if n < 1 ∨ 65535 < n then .bad .badValue else .good (.wait (mk n))

/-- The argument of LOCK and TAKE_CLOSED is 0 (R185). -/
def plainWait (n : Nat) (c : WaitCondition) : FieldCheck :=
  if n = 0 then .good (.wait c) else .bad .badValue

/-- WAIT (R185). -/
def waitFields (bs : List Byte) : FieldCheck :=
  if 3 < (byteAt bs 1).toNat then .bad .badValue
  else if !padsZero bs [2, 3] then .bad .badValue
  else match (byteAt bs 1).toNat with
    | 0 => plainWait (fieldAt bs 4 4) .lock
    | 1 => countedWait (fieldAt bs 4 4) .pairs
    | 2 => countedWait (fieldAt bs 4 4) .ticks
    | _ => plainWait (fieldAt bs 4 4) .takeClosed

/-- The field checks of a cue whose bytes are all valid, apart from the state checks (R161): `size` is the
window size, `height` the height of the FORMAT setting. -/
def cueFields (n : CueName) (bs : List Byte) (size height : Nat) : FieldCheck :=
  match n with
  | .park => .good .park
  | .pad => .good .pad
  | .jump => targetField bs size .jump
  | .call => targetField bs size .call
  | .ret => .good .ret
  | .eye => eyeField bs
  | .format => formatFields bs
  | .orient => orientField bs
  | .probes => probesFields bs height
  | .link => linkField bs
  | .matching => matchFields bs
  | .track => trackFields bs
  | .samples => samplesFields bs
  | .pace => paceFields bs
  | .target => targetFields bs
  | .recall => .good .recall
  | .openTake => valueField bs .openTake
  | .closeTake => .good .closeTake
  | .note => valueField bs .note
  | .wait => waitFields bs

end Sys2Proof.Machine
end

