-- ==== Sys2Proof/Machine/Ops.lean ====
section
/-! DEFINITION. The named operations that the families share: slot memory (R21), the claims on the Frame Store
(R22 to R30), the flush (R32, R33), the places of the pending-results queue (R124), deadlines, the prefetch flush
(R139) and the reports that a WAIT counts (R151). -/

namespace Sys2Proof.Machine

/-- The outcome of a command. -/
abbrev Outcome := Host.Outcome State Fault Refusal

/-- The other eye. -/
def otherEye : Eye → Eye
  | .left => .right
  | .right => .left

/-! ### Slot memory (R21) -/

/-- What an address that is not listed reads: slot memory is zero in every byte after power-on reset (R21). -/
def Memory.unlisted : Byte := 0#8

/-- Read one byte. -/
def Memory.read : Memory → Nat → Byte
  | [], _ => Memory.unlisted
  | c :: m, a => if c.1 = a then c.2 else Memory.read m a

/-- Write one byte, in the canonical form. -/
def Memory.write : Memory → Nat → Byte → Memory
  | [], a, b => if b = Memory.unlisted then [] else [(a, b)]
  | c :: m, a, b =>
    if c.1 < a then c :: Memory.write m a b
    else if c.1 = a then (if b = Memory.unlisted then m else (a, b) :: m)
    else if b = Memory.unlisted then c :: m else (a, b) :: c :: m

/-- Every address in the list is above the bound. -/
def Memory.above (bound : Nat) (m : Memory) : Bool := m.all fun c => decide (bound < c.1)

/-- The canonical form: addresses strictly rising, no entry equal to what an unlisted address reads as. -/
def Memory.wf : Memory → Bool
  | [] => true
  | c :: m => c.2 != Memory.unlisted && Memory.above c.1 m && Memory.wf m

/-- Write bytes at consecutive addresses. -/
def Memory.writeBytes : Memory → Nat → List Byte → Memory
  | m, _, [] => m
  | m, a, b :: bs => Memory.writeBytes (Memory.write m a b) (a + 1) bs

/-- Read `n` bytes from consecutive addresses. -/
def Memory.readBytes (m : Memory) (a n : Nat) : List Byte := (List.range n).map fun i => Memory.read m (a + i)

/-- The address of row index `i` of a slot (R21). -/
def rowAddress (f : FormatSetting) (slot i : Nat) : Nat := slot * Config.slotBytes + i * f.rowBytes

/-! ### Stamps and deadlines -/

/-- The microseconds from a stamp to now, modulo 2^48 (R37). -/
def elapsed (now since : Stamp) : Nat := (now - since).toNat

/-- A deadline or timer has come due. -/
def Timer.due (t : Timer) (now : Stamp) : Bool := decide (t.wait ≤ elapsed now t.base)

/-- The stamp now. -/
def State.now (s : State) : Stamp := s.pace.stamp

/-! ### Claims on the Frame Store (R22 to R30) -/

/-- The frame record a slot carries (R23). -/
def Slot.frame : Slot → Option FrameRecord
  | .free => none
  | .filling f | .queued f | .held f => some f

/-- The slot is FREE. -/
def Slot.isFree : Slot → Bool
  | .free => true
  | _ => false

/-- The slot is QUEUED or HELD, as the flushed count counts it (R33). -/
def Slot.isStored : Slot → Bool
  | .queued _ | .held _ => true
  | _ => false

/-- A slot's state; a number outside the pool names no slot. -/
def FrameStore.slot (f : FrameStore) (n : Nat) : Slot := f.slots.getD n .free

/-- Give a slot a state. -/
def FrameStore.setSlot (f : FrameStore) (n : Nat) (x : Slot) : FrameStore := { f with slots := f.slots.set n x }

/-- How many slots are FREE (R35). -/
def FrameStore.freeSlots (f : FrameStore) : Nat := f.slots.countP Slot.isFree

/-- One eye's queue (R27). -/
def FrameStore.queue (f : FrameStore) : Eye → List Nat
  | .left => f.leftQueue
  | .right => f.rightQueue

/-- Change one eye's queue. -/
def FrameStore.onQueue (f : FrameStore) (e : Eye) (g : List Nat → List Nat) : FrameStore :=
  match e with
  | .left => { f with leftQueue := g f.leftQueue }
  | .right => { f with rightQueue := g f.rightQueue }

/-- The slot an allocation claim is granted (R24): the lowest-numbered FREE slot (log 12), if the eye's queue
holds fewer than 8 frames. -/
def FrameStore.grant (f : FrameStore) (e : Eye) : Option Nat :=
  if (f.queue e).length < Config.eyeQueueRoom then f.slots.findIdx? Slot.isFree else none

/-- The completion claim (R25). -/
def FrameStore.complete (f : FrameStore) (e : Eye) (n : Nat) (frame : FrameRecord) : FrameStore :=
  (f.setSlot n (.queued frame)).onQueue e (· ++ [n])

/-- A claim that frees a slot, carried out only where the slot is in the state the claim requires (R22). -/
def FrameStore.freeIf (f : FrameStore) (required : Slot → Bool) (n : Nat) : FrameStore :=
  if required (f.slot n) then f.setSlot n .free else f

/-- The slot is FILLING. -/
def Slot.isFilling : Slot → Bool
  | .filling _ => true
  | _ => false

/-- The slot is HELD. -/
def Slot.isHeld : Slot → Bool
  | .held _ => true
  | _ => false

/-- The cut claim (R26). -/
def FrameStore.cut (f : FrameStore) (n : Nat) : FrameStore := f.freeIf Slot.isFilling n

/-- The release of a HELD slot (R30). -/
def FrameStore.release (f : FrameStore) (n : Nat) : FrameStore := f.freeIf Slot.isHeld n

/-- The take claim for one head (R28): it leaves its queue and becomes HELD, its record unchanged. -/
def FrameStore.take (f : FrameStore) (e : Eye) (n : Nat) (frame : FrameRecord) : FrameStore :=
  (f.setSlot n (.held frame)).onQueue e List.tail

/-- The release claim for an orphan head (R29). -/
def FrameStore.releaseHead (f : FrameStore) (e : Eye) (n : Nat) : FrameStore :=
  (f.setSlot n .free).onQueue e List.tail

/-- The head of an eye queue with its frame record. -/
def State.head (s : State) (e : Eye) : Option (Nat × FrameRecord) :=
  match s.store.queue e with
  | [] => none
  | n :: _ =>
    match s.store.slot n with
    | .queued f => some (n, f)
    | _ => none

/-! ### The flush (R32, R33) -/

/-- The Frame Store's part: every slot FREE, both queues empty; slot memory stays. -/
def FrameStore.flush (f : FrameStore) (counted : Bool) : FrameStore :=
  { f with
    slots := List.replicate f.slots.length .free
    leftQueue := []
    rightQueue := []
    flushed := if counted then Counter.add f.flushed (f.slots.countP Slot.isStored) else f.flushed }

/-- The receiver's part: the filling frame is cut, and the receiver stays in its sync state (R18). -/
def Receiver.flushCut (counted : Bool) (r : Receiver) : Receiver :=
  { r with
    filling := none
    counters := { r.counters with
      cuts := if counted && r.filling.isSome then Counter.inc r.counters.cuts else r.counters.cuts } }

/-- The matcher's part: the pair table is emptied and the partner-wait marks are dropped (R65). -/
def PairMatcher.emptied (m : PairMatcher) : PairMatcher :=
  { m with table := [], leftMark := WaitMark.clear, rightMark := WaitMark.clear }

/-- A flush of the Frame Store with all its effects (R32); `counted` for a format-class cue (R33). -/
def State.flush (s : State) (counted : Bool) : State :=
  ((((s.onReceiver .left (Receiver.flushCut counted)).onReceiver .right (Receiver.flushCut counted)).onStore
    (FrameStore.flush · counted)).onMatcher PairMatcher.emptied).onAlign fun a => { a with busy := none }

/-! ### The places of the pending-results queue (R123, R124) -/

/-- A place can be reserved: records held and places reserved number fewer than 8. -/
def ResultWriter.canReserve (w : ResultWriter) : Bool :=
  decide (w.held.length + w.reserved < Config.pendingPlaces)

/-! ### The prefetch flush (R139) -/

/-- Flush the prefetch buffer at a cursor. -/
def CueReader.flushAt (r : CueReader) (cursor : Nat) : CueReader :=
  { r with
    cursor := cursor
    buffer := []
    sequence := r.sequence + 1
    fetchPointer := cursor / 8 * 8
    skip := cursor % 8 }

/-! ### Reports to a waiting reader (R151) -/

/-- A report of a receiver entering FRAME_LOCK: LOCK is met when both are in FRAME_LOCK. -/
def CueReader.reportLock (r : CueReader) (both : Bool) : CueReader :=
  match r.state with
  | .waiting .lock k e => { r with state := .waiting .lock k (e || both) }
  | _ => r

/-- A report of the take CLOSED. -/
def CueReader.reportClosed (r : CueReader) : CueReader :=
  match r.state with
  | .waiting .takeClosed k _ => { r with state := .waiting .takeClosed k true }
  | _ => r

/-- A PAIR, SINGLE or DOUBLE record placed: PAIRS counts it. -/
def CueReader.reportPair (r : CueReader) : CueReader :=
  match r.state with
  | .waiting (.pairs n) k false => { r with state := .waiting (.pairs n) (k + 1) (decide (n ≤ k + 1)) }
  | _ => r

/-- A pace tick: TICKS counts it. -/
def CueReader.reportTick (r : CueReader) : CueReader :=
  match r.state with
  | .waiting (.ticks n) k false => { r with state := .waiting (.ticks n) (k + 1) (decide (n ≤ k + 1)) }
  | _ => r

end Sys2Proof.Machine
end

