-- ==== Sys2Proof/Machine/Samples.lean ====
section
/-! DEFINITION. The Sample Ports (05, R81 to R92): SAMPLE_CHARACTER, SAMPLE_MESSAGE, MESSAGE_DEADLINE_EXPIRY,
the stack with its aging, and the selection for a new entry. -/

namespace Sys2Proof.Machine

/-! ### Judging a message (R83, R84) -/

/-- The check of a message: the sum of all its bytes, modulo 256, is 0. -/
def messageCheck (bs : List Byte) : Bool := (bs.map BitVec.toNat).sum % 256 == 0

/-- The kind byte a port takes. -/
def kindByte : PortId → Byte
  | .leftLens | .rightLens => Config.lensKind
  | .rig => Config.rigKind

/-- Every value field of a lens message lies within its range. -/
def lensRange (bs : List Byte) : Bool :=
  decide (100 ≤ fieldAt bs 6 2) && decide (fieldAt bs 6 2 ≤ 6400) && decide (1 ≤ fieldAt bs 8 2)

/-- Every value field of a rig message lies within its range. -/
def rigRange (bs : List Byte) : Bool :=
  decide (fieldAt bs 2 4 ≤ 200000) && decide (-500000 ≤ (word32At bs 6).toInt) &&
    decide ((word32At bs 6).toInt ≤ 500000)

/-- Every value field lies within its range by R84. -/
def valuesInRange (port : PortId) (bs : List Byte) : Bool :=
  match port with
  | .leftLens | .rightLens => lensRange bs
  | .rig => rigRange bs

/-- A complete message is a good message (R83). -/
def messageGood (port : PortId) (bs : List Byte) : Bool :=
  messageCheck bs && byteAt bs 1 == kindByte port && valuesInRange port bs

/-- The sample a good message becomes: its eight value bytes with the message's stamp. -/
def messageSample (now : Stamp) (bs : List Byte) : Sample :=
  { stamp := now, values := BitVec.ofNat 64 (fieldAt bs 2 8) }

/-- Push a sample as the newest (R85). -/
def SamplePort.push (p : SamplePort) (x : Sample) : SamplePort :=
  if p.stack.length < Config.stackRoom then { p with stack := p.stack ++ [x] }
  else { p with stack := p.stack.tail ++ [x], overruns := Counter.inc p.overruns }

/-- A complete message judged: a sample pushed, or the bad-message count increased (R83). -/
def SamplePort.judge (p : SamplePort) (port : PortId) (now : Stamp) (bs : List Byte) : SamplePort :=
  if messageGood port bs then p.push (messageSample now bs) else { p with bad := Counter.inc p.bad }

/-! ### Reception (R81, R82) -/

/-- The message is discarded and counted as bad; the port returns to AWAITING. -/
def SamplePort.discardBad (p : SamplePort) : SamplePort :=
  { p with reception := .awaiting, bad := Counter.inc p.bad }

/-- A character in AWAITING. -/
def SamplePort.begin (p : SamplePort) (now : Stamp) (c : Byte) (framing : Bool) : SamplePort :=
  if c = Config.startByte ∧ framing = false then { p with reception := .collecting now [c] } else p

/-- A character in COLLECTING, after the bytes `bs` begun at `start`. -/
def SamplePort.collect (p : SamplePort) (port : PortId) (now start : Stamp) (bs : List Byte) (c : Byte)
    (framing : Bool) : SamplePort :=
  if framing then p.discardBad
  else if bs.length + 1 < Config.messageBytes then { p with reception := .collecting start (bs ++ [c]) }
  else { p with reception := .awaiting }.judge port now (bs ++ [c])

/-- A character taken at its stop bit. -/
def SamplePort.take (p : SamplePort) (port : PortId) (now : Stamp) (c : Byte) (framing : Bool) : SamplePort :=
  match p.reception with
  | .awaiting => p.begin now c framing
  | .collecting start bs => p.collect port now start bs c framing

/-- The character completes or ends a message (R82). -/
def SamplePort.endsMessage (p : SamplePort) (framing : Bool) : Bool :=
  match p.reception with
  | .awaiting => false
  | .collecting _ bs => framing || decide (Config.messageBytes ≤ bs.length + 1)

/-- A port takes a character only while the run state is RUNNING (R81). -/
def State.takeCharacter (s : State) (port : PortId) (c : Byte) (framing : Bool) : State :=
  if s.regs.run = .running then s.onPort port fun p => p.take port s.now c framing else s

/-- SAMPLE_CHARACTER (R81, R82). -/
def execSampleCharacter (port : PortId) (c : Byte) (framing : Bool) (s : State) : Outcome :=
  .next (s.takeCharacter port c framing)

/-- SAMPLE_MESSAGE (R82, R83): the character that completes or ends a message; log 8. -/
def execSampleMessage (port : PortId) (c : Byte) (framing : Bool) (s : State) : Outcome :=
  .next (if (s.port port).endsMessage framing then s.takeCharacter port c framing else s)

/-- The completion deadline of a collecting message has come (R81). -/
def SamplePort.overdue (p : SamplePort) (now : Stamp) : Bool :=
  match p.reception with
  | .awaiting => false
  | .collecting start _ => decide (Config.messageLimit ≤ elapsed now start)

/-- MESSAGE_DEADLINE_EXPIRY (R82). -/
def execMessageDeadlineExpiry (port : PortId) (s : State) : Outcome :=
  .next (if (s.port port).overdue s.now then s.onPort port SamplePort.discardBad else s)

/-- A partial message is discarded without being counted (R82). -/
def SamplePort.dropPartial (p : SamplePort) : SamplePort := { p with reception := .awaiting }

/-- Every port drops its partial message, as RUNNING is left. -/
def State.dropPartials (s : State) : State :=
  ((s.onPort .leftLens SamplePort.dropPartial).onPort .rightLens SamplePort.dropPartial).onPort .rig
    SamplePort.dropPartial

/-! ### Aging and selection (R86, R87) -/

/-- Remove the samples older than the max age at a tick. -/
def SamplePort.age (p : SamplePort) (now : Stamp) (maxAge : Nat) : SamplePort :=
  { p with stack := p.stack.filter fun x => decide (elapsed now x.stamp ≤ maxAge) }

/-- A pace tick at one Sample Port (R86). -/
def State.ageSamples (s : State) (port : PortId) : State :=
  s.onPort port fun p => p.age s.now s.settings.samples.maxAge

/-- A sample qualifies against a capture stamp (R87). -/
def qualifies (x : SampleSetting) (c : Stamp) (p : Sample) : Bool :=
  decide (p.stamp.toNat ≤ c.toNat + x.lead) && decide (c.toNat - x.maxAge ≤ p.stamp.toNat)

/-- The newest qualifying sample's value bytes (R87, R88). -/
def SamplePort.select (p : SamplePort) (x : SampleSetting) (c : Stamp) : Option (BitVec 64) :=
  ((p.stack.filter (qualifies x c)).getLast?).map (·.values)

/-- A port's answer to the matcher. -/
def State.selected (s : State) (port : PortId) (c : Stamp) : Option (BitVec 64) :=
  (s.port port).select s.settings.samples c

/-- The lens port of an eye. -/
def lensPort : Eye → PortId
  | .left => .leftLens
  | .right => .rightLens

end Sys2Proof.Machine
end

