-- ==== Sys2Proof/Machine/Formats.lean ====
section
/-! DEFINITION. The layouts the part writes: the 128-byte result record (11, The result record; R201, R202) and
the 256-byte status block (11, The status block; R133, R202). -/

namespace Sys2Proof.Machine

/-! ### The result record -/

/-- The value of an optional field; an absent field is written as zero (R202). -/
def orZero (x : Option Nat) : Nat := x.getD 0

/-- A presence bit at position `i` (R201). -/
def presence (i : Nat) (p : Bool) : Nat := if p then 2 ^ i else 0

/-- The flaw-set byte. -/
def Flaws.code (f : Flaws) : Nat := presence 0 f.tailMissing + presence 1 f.rowCount + presence 2 f.frameCheck

/-- The fault code of a CUE FAULT record (R156). -/
def FaultCode.code : FaultCode → Nat
  | .unknownCue => 1
  | .windowEnd => 2
  | .jumpRange => 3
  | .callDepth => 4
  | .returnEmpty => 5
  | .prefixTwice => 6
  | .prefixMisplaced => 7
  | .badValue => 8
  | .formatTooLarge => 9
  | .takeNested => 10
  | .noTake => 11

/-- The fields of a record in the order of the layout, each zero unless the kind carries it. -/
structure RecordImage where
  kind : Nat
  flags : Nat := 0
  tag : Nat := 0
  dropped : Nat := 0
  unit : Nat := 0
  take : Nat := 0
  skew : Int := 0
  leftCapture : Nat := 0
  rightCapture : Nat := 0
  leftCount : Nat := 0
  rightCount : Nat := 0
  leftGap : Nat := 0
  rightGap : Nat := 0
  leftDamaged : Nat := 0
  rightDamaged : Nat := 0
  leftFlaws : Nat := 0
  rightFlaws : Nat := 0
  applied : Int := 0
  measured : Int := 0
  confidence : Nat := 0
  leftLens : Nat := 0
  rightLens : Nat := 0
  rig : Nat := 0
  openStamp : Nat := 0
  closeStamp : Nat := 0
  takeRecords : Nat := 0
  note : Nat := 0
  size : Nat := 0
  recalled : Nat := 0
  firstTag : Nat := 0
  lastTag : Nat := 0
  fault : Nat := 0
  cursor : Nat := 0

/-- The 128 bytes of a record with its serial (11, The result record). -/
def RecordImage.bytes (i : RecordImage) (serial : BitVec 32) : List Byte :=
  leBytes 4 serial.toNat ++ leBytes 1 i.kind ++ leBytes 1 0 ++ leBytes 2 i.flags ++ leBytes 2 i.tag ++
  leBytes 2 i.dropped ++ leBytes 4 i.unit ++ leBytes 4 i.take ++ leInt 4 i.skew ++ leBytes 6 i.leftCapture ++
  leBytes 6 i.rightCapture ++ leBytes 2 i.leftCount ++ leBytes 2 i.rightCount ++ leBytes 2 i.leftGap ++
  leBytes 2 i.rightGap ++ leBytes 2 i.leftDamaged ++ leBytes 2 i.rightDamaged ++ leBytes 1 i.leftFlaws ++
  leBytes 1 i.rightFlaws ++ leInt 1 i.applied ++ leInt 1 i.measured ++ leBytes 4 i.confidence ++
  leBytes 8 i.leftLens ++ leBytes 8 i.rightLens ++ leBytes 8 i.rig ++ leBytes 6 i.openStamp ++
  leBytes 6 i.closeStamp ++ leBytes 4 i.takeRecords ++ leBytes 4 i.note ++ leBytes 4 i.size ++
  leBytes 1 i.recalled ++ leBytes 1 0 ++ leBytes 2 i.firstTag ++ leBytes 2 i.lastTag ++ leBytes 1 i.fault ++
  leBytes 1 0 ++ leBytes 4 i.cursor ++ leBytes 12 0

/-- The kind byte of a delivery record. -/
def EntryKind.code : EntryKind → Nat
  | .pair _ => 1
  | .orphan _ false => 2
  | .orphan _ true => 3

/-- The skew of a PAIR. -/
def EntryKind.skew : EntryKind → Option Int
  | .pair d => some d
  | .orphan _ _ => none

/-- The presence flags of a delivery record (R201). -/
def DeliveryRecord.flags (d : DeliveryRecord) : Nat :=
  presence 0 d.left.isSome + presence 1 d.right.isSome + presence 2 (d.left.bind (·.countGap)).isSome +
  presence 3 (d.right.bind (·.countGap)).isSome + presence 4 d.takeNumber.isSome +
  presence 5 d.kind.skew.isSome + presence 6 d.measurement.isSome + presence 7 d.leftLens.isSome +
  presence 8 d.rightLens.isSome + presence 9 d.rig.isSome

/-- The image of a PAIR, SINGLE or DOUBLE record. -/
def DeliveryRecord.image (d : DeliveryRecord) : RecordImage where
  kind := d.kind.code
  flags := d.flags
  tag := d.tag.toNat
  dropped := d.droppedSince
  unit := d.unit.toNat
  take := orZero (d.takeNumber.map BitVec.toNat)
  skew := d.kind.skew.getD 0
  leftCapture := orZero (d.left.map (·.captureStamp.toNat))
  rightCapture := orZero (d.right.map (·.captureStamp.toNat))
  leftCount := orZero (d.left.map (·.frameCount.toNat))
  rightCount := orZero (d.right.map (·.frameCount.toNat))
  leftGap := orZero ((d.left.bind (·.countGap)).map BitVec.toNat)
  rightGap := orZero ((d.right.bind (·.countGap)).map BitVec.toNat)
  leftDamaged := orZero (d.left.map (·.damagedRows))
  rightDamaged := orZero (d.right.map (·.damagedRows))
  leftFlaws := orZero (d.left.map (·.flaws.code))
  rightFlaws := orZero (d.right.map (·.flaws.code))
  applied := d.applied
  measured := (d.measurement.map (·.offset)).getD 0
  confidence := orZero (d.measurement.map (·.confidence))
  leftLens := orZero (d.leftLens.map BitVec.toNat)
  rightLens := orZero (d.rightLens.map BitVec.toNat)
  rig := orZero (d.rig.map BitVec.toNat)

/-- The image of any record (11, The result record). -/
def ResultRecord.image : ResultRecord → RecordImage
  | .delivery d => d.image
  | .note v => { kind := 4, note := v.toNat }
  | .takeOpened n o => { kind := 5, flags := presence 4 true, take := n.toNat, openStamp := o.toNat }
  | .takeClosed n o c k =>
      { kind := 6, flags := presence 4 true, take := n.toNat, openStamp := o.toNat, closeStamp := c.toNat,
        takeRecords := k.toNat }
  | .targetShort t z u => { kind := 7, tag := t.toNat, unit := u.toNat, size := z.toNat }
  | .targetsRecalled k f l => { kind := 8, recalled := k, firstTag := f.toNat, lastTag := l.toNat }
  | .cueFault c k => { kind := 9, fault := c.code, cursor := k }

/-- The 128 bytes of a record written with a serial. -/
def ResultRecord.bytes (r : ResultRecord) (serial : BitVec 32) : List Byte := r.image.bytes serial

/-! ### The status block -/

/-- Pace state code. -/
def PaceState.code : PaceState → Nat
  | .free => 0
  | .referenced => 1
  | .holdover => 2

/-- Sync state code. -/
def SyncState.code : SyncState → Nat
  | .off => 0
  | .hunt => 1
  | .verify => 2
  | .rowLock => 3
  | .frameLock => 4

/-- Matcher state code. -/
def MatcherState.code : MatcherState → Nat
  | .stopped => 0
  | .acquire => 1
  | .tracking => 2

/-- Take state code. -/
def TakeState.code : TakeState → Nat
  | .closed => 0
  | .opened => 1
  | .closing => 2

/-- Reader state code. -/
def ReaderState.code : ReaderState → Nat
  | .off => 0
  | .running => 1
  | .stalled => 2
  | .held _ => 3
  | .waiting _ _ _ => 4
  | .parked => 5
  | .faulted _ _ => 6

/-- Hold reason code. -/
def HoldReason.code : HoldReason → Nat
  | .targetRoom => 3
  | .resultRoom => 4
  | .takeClosing => 5
  | .takeActive => 6

/-- Wait condition code, as a reader reason. -/
def WaitCondition.code : WaitCondition → Nat
  | .lock => 7
  | .pairs _ => 8
  | .ticks _ => 9
  | .takeClosed => 10

/-- Reader reason code (R159). -/
def ReaderState.reason : ReaderState → Nat
  | .off | .running => 0
  | .stalled => 1
  | .parked => 2
  | .held r => r.code
  | .waiting c _ _ => c.code
  | .faulted c _ => c.code

/-- The wait argument; 0 outside WAITING (R202). -/
def ReaderState.waitArgument : ReaderState → Nat
  | .waiting (.pairs n) _ _ => n
  | .waiting (.ticks n) _ _ => n
  | _ => 0

/-- The wait count; 0 outside WAITING (R202). -/
def ReaderState.waitCount : ReaderState → Nat
  | .waiting _ k _ => k
  | _ => 0

/-- The fault-record mark; 0 outside FAULTED (R202). -/
def ReaderState.mark : ReaderState → Nat
  | .faulted _ true => 1
  | _ => 0

/-- The eye code of the EYE cue. -/
def EyeChoice.code : EyeChoice → Nat
  | .both => 0
  | .only .left => 1
  | .only .right => 2

/-- The eye prefix byte: clear 0; set, 0x80 plus the eye code. -/
def prefixByte (p : Option EyeChoice) : Nat :=
  match p with
  | none => 0
  | some c => 0x80 + c.code

/-- The mark history byte: entry i at bit i, newest at bit 0, 1 good. -/
def historyByte : List Bool → Nat
  | [] => 0
  | g :: rest => (if g then 1 else 0) + 2 * historyByte rest

/-- The 32 bytes of a receiver block. -/
def Receiver.statusBytes (r : Receiver) : List Byte :=
  leBytes 1 r.sync.code ++ leBytes 1 r.history.length ++ leBytes 1 (historyByte r.history) ++ leBytes 1 0 ++
  leBytes 4 r.counters.slips.toNat ++ leBytes 4 r.counters.mismatches.toNat ++
  leBytes 4 r.counters.cuts.toNat ++ leBytes 4 r.counters.headDamaged.toNat ++
  leBytes 4 r.counters.flawed.toNat ++ leBytes 4 r.counters.damagedRows.toNat ++
  leBytes 4 r.counters.countGaps.toNat

/-- TRACK mode code. -/
def TrackMode.code : TrackMode → Nat
  | .auto => 0
  | .fixed => 1

/-- Bytes 0x00 to 0x1F of the status block. -/
def State.statusHead (s : State) (serial : BitVec 32) (final : Bool) : List Byte :=
  leBytes 4 serial.toNat ++ leBytes 6 s.now.toNat ++ leBytes 1 s.regs.run.code ++
  leBytes 1 (if final then 1 else 0) ++ leBytes 1 s.pace.state.code ++ leBytes 1 s.matcher.state.code ++
  leBytes 1 s.matcher.take.code ++ leBytes 1 s.reader.state.code ++ leBytes 4 (orZero s.pace.measured) ++
  leBytes 2 s.pace.holdoverCount ++ leBytes 1 s.store.freeSlots ++ leBytes 1 s.matcher.table.length ++
  leBytes 1 s.store.leftQueue.length ++ leBytes 1 s.store.rightQueue.length ++
  leBytes 1 s.delivery.targets.length ++ leBytes 1 (if s.delivery.copy.isSome then 1 else 0) ++
  leBytes 1 s.writer.held.length ++ leBytes 1 s.writer.reserved ++
  leBytes 1 (if final then s.writer.unwritten else 0) ++ leInt 1 s.align.offset

/-- Bytes 0x20 to 0x47 of the status block. -/
def State.statusMiddle (s : State) : List Byte :=
  leBytes 4 s.writer.nextSerial.toNat ++ leBytes 4 s.writer.consumed.toNat ++
  leBytes 4 s.matcher.takeNumber.toNat ++ leBytes 4 s.matcher.nextUnit.toNat ++ leInt 4 s.matcher.skew ++
  leBytes 1 s.settings.track.mode.code ++ leInt 1 (s.align.candidate.getD 0) ++
  leBytes 1 (if s.align.candidate.isSome then 1 else 0) ++ leBytes 1 s.align.agreement ++
  leBytes 1 s.reader.state.reason ++ leBytes 1 s.reader.stack.length ++
  leBytes 1 (prefixByte s.reader.eyePrefix) ++ leBytes 1 s.reader.state.mark ++ leBytes 4 s.reader.cursor ++
  leBytes 4 s.reader.state.waitArgument ++ leBytes 4 s.reader.state.waitCount

/-- The counters at 0x88 to 0xE3 of the status block. -/
def State.statusCounters (s : State) : List Counter :=
  [s.pace.inconsistent, s.store.flushed, s.matcher.pairsFormed, s.matcher.orphansFormed,
    s.matcher.orphansDropped, s.align.valid, s.align.invalid, s.align.settles, s.delivery.pairs,
    s.delivery.singles, s.delivery.doubles, s.delivery.short] ++
  [s.writer.recordsWritten, s.writer.roomWaits, s.writer.statusSkipped, s.reader.executed, s.reader.reLooks,
    s.leftLens.bad, s.leftLens.overruns, s.rightLens.bad, s.rightLens.overruns, s.rig.bad, s.rig.overruns]

/-- The 256 bytes of the status block with its serial (R132, R133). -/
def State.statusBytes (s : State) (serial : BitVec 32) (final : Bool) : List Byte :=
  s.statusHead serial final ++ s.statusMiddle ++ s.left.statusBytes ++ s.right.statusBytes ++
  s.statusCounters.flatMap (fun c => leBytes 4 c.toNat) ++ leBytes 24 0 ++ leBytes 4 serial.toNat

end Sys2Proof.Machine
end

