-- ==== Sys2Proof/Machine/Writer.lean ====
section
/-! DEFINITION. The Result Writer (07, R123 to R133): placing records, the result ring, the consumed read, the
status writes, and RECORD_WRITE_ACCEPTED, CONSUMED_READ_RETURN and STATUS_WRITE_ACCEPTED. -/

namespace Sys2Proof.Machine

/-! ### The ring (R126, R127) -/

/-- The index of a serial in the ring. -/
def ringIndex (serial : BitVec 32) (entries : Nat) : Nat := (serial.toNat - 1) % entries

/-- The serial after a serial; 4,294,967,295 is followed by 1. -/
def serialAfter (serial : BitVec 32) : BitVec 32 := if serial = 0xFFFFFFFF#32 then 1#32 else serial + 1#32

/-- The record with the next serial has room. -/
def ringRoom (serial consumed : BitVec 32) (entries : Nat) : Bool := decide ((serial - consumed).toNat ≤ entries)

/-- The known consumed serial after a read of `v`, the last record written being `last`. -/
def nextConsumed (v last : BitVec 32) : BitVec 32 :=
  if 1 ≤ (v - last).toNat ∧ (v - last).toNat ≤ 2147483647 then last else v

/-- The write of a record with a serial: 128 bytes at its place in the ring. -/
def recordWriteOf (b : Bases) (serial : BitVec 32) (r : ResultRecord) : HostWrite :=
  { address := b.ringBase.toNat + 128 * ringIndex serial b.ringEntries, bytes := r.bytes serial }

/-! ### The order of the writer's accesses (R195) -/

/-- A read of host memory. -/
def Access.isRead : Access → Bool
  | .headerRead | .cueFetch | .consumedRead => true
  | .targetWrite | .recordWrite | .statusWrite => false

/-- The writer's access is taken in its turn: every write the writer presented before it has been accepted (R195). A
read presented before it has been taken by the Bus Port, though its data may not have returned. -/
def ResultWriter.inTurn (w : ResultWriter) (a : Access) : Bool := (w.presented.takeWhile (· != a)).all Access.isRead

/-- The access is complete. -/
def ResultWriter.retire (w : ResultWriter) (a : Access) : ResultWriter := { w with presented := w.presented.erase a }

/-! ### Judging the head (R129) -/

/-- Issue the write of the head record: WRITING. -/
def State.issueRecord (s : State) (r : ResultRecord) : State :=
  s.onWriter fun w =>
    { w with recordWrite := some (recordWriteOf s.regs.bases w.nextSerial r), state := .writing,
             presented := w.presented ++ [.recordWrite] }

/-- Issue a consumed read at the address latched at START, unless one is in flight (R128). -/
def State.issueConsumed (s : State) : State :=
  s.onWriter fun w => if w.consumedRead.isSome then w else
    { w with consumedRead := some { address := s.regs.bases.consumedAddress, issued := s.now },
             presented := w.presented ++ [.consumedRead] }

/-- The head record has room. -/
def State.headRoom (s : State) : Bool :=
  ringRoom s.writer.nextSerial s.writer.consumed s.regs.bases.ringEntries

/-- The head judged as in IDLE: written where it has room, and otherwise a consumed read is issued. -/
def State.judgeHead (s : State) : State :=
  match s.writer.held with
  | [] => s.onWriter fun w => { w with state := .idle }
  | r :: _ =>
    if s.headRoom then s.issueRecord r
    else s.issueConsumed.onWriter fun w => { w with state := .checking }

/-- Place a record in a place free until now: it joins the tail, and an IDLE writer judges it (R124, R129). -/
def State.place (s : State) (r : ResultRecord) : State :=
  let s' := s.onWriter fun w => { w with held := w.held ++ [r] }
  if s.writer.state = .idle then s'.judgeHead else s'

/-- Place a record in the engine's reserved place. -/
def State.placeReserved (s : State) (r : ResultRecord) : State :=
  (s.onWriter fun w => { w with reserved := w.reserved - 1 }).place r

/-! ### Record writes and consumed reads -/

/-- The head's place is freed and the serial advances (R129). -/
def ResultWriter.written (w : ResultWriter) : ResultWriter :=
  { w.retire .recordWrite with
    recordWrite := none
    held := w.held.tail
    lastSerial := w.nextSerial
    nextSerial := serialAfter w.nextSerial
    recordsWritten := Counter.inc w.recordsWritten }

/-- RECORD_WRITE_ACCEPTED (R129): the Bus Port takes the record write in flight, in its turn (R195) and only with bus
mastering on (R196). -/
def execRecordWriteAccepted (s : State) : Outcome :=
  .next (match s.writer.recordWrite with
    | none => s
    | some h =>
      if s.regs.busMaster && s.writer.inTurn .recordWrite then
        (((s.carry (.write h)).onWriter ResultWriter.written).setCause .result).judgeHead
      else s)

/-- The head lacks room after a consumed read: WAITING, with RING_FULL at its entry from CHECKING (R130). -/
def State.lacksRoom (s : State) : State :=
  if s.writer.state = .checking then
    (s.onWriter fun w => { w with state := .waiting, roomWaits := Counter.inc w.roomWaits }).setCause .ringFull
  else s

/-- The head judged again after a consumed read (R129). -/
def State.judgeAgain (s : State) : State :=
  match s.writer.held with
  | [] => s
  | r :: _ => if s.headRoom then s.issueRecord r else s.lacksRoom

/-- A consumed read returns with a value. -/
def State.consumedReturned (s : State) (v : BitVec 32) : State :=
  (s.onWriter fun w =>
    { w.retire .consumedRead with consumedRead := none, consumed := nextConsumed v w.lastSerial }).judgeAgain

/-- CONSUMED_READ_RETURN (R127, R129), after every write the writer presented before it (R195). -/
def execConsumedReadReturn (v : BitVec 32) (s : State) : Outcome :=
  .next (if s.writer.consumedRead.isSome && s.writer.inTurn .consumedRead then s.consumedReturned v else s)

/-- A pace tick at the writer's records: a consumed read while WAITING, in RUNNING only (R128, R129). -/
def State.writerTick (s : State) : State :=
  if s.writer.state = .waiting ∧ s.regs.run = .running then s.issueConsumed else s

/-! ### Status writes (R132) -/

/-- The next status serial; it stays at its largest value (log 21). -/
def statusSerialAfter (serial : BitVec 32) : BitVec 32 := Counter.inc serial

/-- Assemble and issue a status write with the next status serial. -/
def State.issueStatus (s : State) (final : Bool) : State :=
  let serial := statusSerialAfter s.writer.statusSerial
  let h : HostWrite := { address := s.regs.bases.statusBase.toNat, bytes := s.statusBytes serial final }
  s.onWriter fun w =>
    { w with statusWrite := some h, statusSerial := serial, presented := w.presented ++ [.statusWrite] }

/-- No host access is in flight. -/
def State.quiet (s : State) : Bool :=
  s.regs.headerRead.isNone && s.reader.fetch.isNone && s.writer.consumedRead.isNone &&
    s.writer.recordWrite.isNone && s.writer.statusWrite.isNone && s.delivery.copy.isNone

/-- After a STOP in RUNNING, DRAINING is at its end, and the final status write is still to be made (R131, R193). -/
def State.drained (s : State) : Bool :=
  s.regs.run == .draining && !s.regs.drainedStarting && s.writer.final == .notReached && s.quiet &&
    (s.writer.held.isEmpty || s.writer.state == .waiting)

/-- The end of DRAINING has been reached, whether or not DRAINING_END_REACHED has been taken since (R193, log 39). -/
def State.endReached (s : State) : Bool := s.drained || s.writer.final != .notReached

/-- A pace tick at the status block: a skip where the previous write, the final one included, is still in flight, and
otherwise a write, unless the end of DRAINING has been reached (R132, R193). -/
def State.statusOrSkip (s : State) : State :=
  if s.writer.statusWrite.isSome then
    s.onWriter fun w => { w with statusSkipped := Counter.inc w.statusSkipped }
  else if s.endReached then s
  else s.issueStatus false

/-- Status writes are made in RUNNING and DRAINING, and not by a STOPPED writer (R132, R193). -/
def State.statusTick (s : State) : State :=
  if (s.regs.run = .running ∨ s.regs.run = .draining) ∧ s.writer.state ≠ .stopped then s.statusOrSkip else s

/-- The status write in flight has been accepted; after the final one the writer is STOPPED (R134). -/
def ResultWriter.statusDone (w : ResultWriter) : ResultWriter :=
  { w.retire .statusWrite with
    statusWrite := none
    final := if w.final = .issued then .accepted else w.final
    state := if w.final = .issued then .stopped else w.state }

/-- The Bus Port takes the status write in flight (R132). -/
def State.statusAccepted (s : State) (h : HostWrite) : State :=
  (s.carry (.write h)).onWriter ResultWriter.statusDone

/-- STATUS_WRITE_ACCEPTED (R132), in its turn (R195) and with bus mastering on (R196). -/
def execStatusWriteAccepted (s : State) : Outcome :=
  .next (match s.writer.statusWrite with
    | none => s
    | some h => if s.regs.busMaster && s.writer.inTurn .statusWrite then s.statusAccepted h else s)

end Sys2Proof.Machine
end

