-- ==== Sys2Proof/Machine/Matcher.lean ====
section
/-! DEFINITION. The Pair Matcher (04, R50 to R80): the disposal of queue heads, orphans, the pair table, the skew
tracker, membership, the close check and the take close, the partner-wait counts, PARTNER_WAIT_EXPIRY and
TAKE_CLOSE_COMPLETION. -/

namespace Sys2Proof.Machine

/-! ### Partner-wait marks (R55) -/

/-- The partner-wait mark of one queue's head. -/
def PairMatcher.mark (m : PairMatcher) : Eye → WaitMark
  | .left => m.leftMark
  | .right => m.rightMark

/-- Set the partner-wait mark of one queue's head. -/
def PairMatcher.setMark (m : PairMatcher) (e : Eye) (w : WaitMark) : PairMatcher :=
  match e with
  | .left => { m with leftMark := w }
  | .right => { m with rightMark := w }

/-- The pair table has room (R61). -/
def PairMatcher.hasRoom (m : PairMatcher) : Bool := decide (m.table.length < Config.pairTableRoom)

/-- One eye's head is a waiting head (R55). -/
def State.isWaiting (s : State) (e : Eye) : Bool :=
  (s.head e).isSome && !(s.matcher.mark e).expired && (s.store.queue (otherEye e)).isEmpty &&
    (s.receiver (otherEye e)).sync == .frameLock

/-- One eye's count at a tick: a waiting head's count is increased, and reaching the partner wait expires it. -/
def State.advanceMark (s : State) (e : Eye) : WaitMark :=
  let w := s.matcher.mark e
  if s.isWaiting e then
    { count := w.count + 1, expired := decide (s.settings.matching.partnerWait ≤ w.count + 1) }
  else w

/-- The partner-wait counts advanced at a tick (R55). -/
def State.advanceWaits (s : State) : State :=
  let l := s.advanceMark .left
  let r := s.advanceMark .right
  s.onMatcher fun m => { m with leftMark := l, rightMark := r }

/-- The tick would expire one eye's waiting head. -/
def State.wouldExpire (s : State) (e : Eye) : Bool :=
  s.isWaiting e && decide (s.settings.matching.partnerWait ≤ (s.matcher.mark e).count + 1)

/-- One eye's mark at the execution of MATCH: a waiting head whose count has reached the partner wait expires. -/
def State.lowerMark (s : State) (e : Eye) : WaitMark :=
  let w := s.matcher.mark e
  if s.isWaiting e && decide (s.settings.matching.partnerWait ≤ w.count) then { w with expired := true } else w

/-- Every waiting head whose count has reached the partner wait is marked expired (R55, R70). -/
def State.expireReached (s : State) : State :=
  let l := s.lowerMark .left
  let r := s.lowerMark .right
  s.onMatcher fun m => { m with leftMark := l, rightMark := r }

/-! ### Membership (R74) -/

/-- An entry stamp belongs to the current take. -/
def PairMatcher.member (m : PairMatcher) (c : Stamp) : Bool :=
  m.take != .closed && decide (m.openStamp.toNat ≤ c.toNat) &&
    (m.take == .opened || (match m.closeStamp with
      | some x => decide (c.toNat ≤ x.toNat)
      | none => false))

/-! ### The skew tracker (R67, R68) -/

/-- The estimate after a pair with skew `d`. -/
def PairMatcher.nextSkew (m : PairMatcher) (d : Int) : Int :=
  if m.state = .acquire then d else m.skew + (d - m.skew).tdiv 8

/-- The alarm after an update to the estimate `x`. -/
def nextAlarm (a : Alarm) (x : Int) (limit : Nat) : Alarm :=
  match a with
  | .armed => if limit < x.natAbs then .fired else .armed
  | .fired => if x.natAbs * 4 ≤ limit * 3 then .armed else .fired

/-- The skew tracker updated, with the SKEW cause where the alarm fires. -/
def State.updateSkew (s : State) (d : Int) : State :=
  let x := s.matcher.nextSkew d
  let a := nextAlarm s.matcher.alarm x s.settings.matching.skewLimit
  let s' := s.onMatcher fun m => { m with skew := x, state := .tracking, alarm := a }
  if s.matcher.alarm = .armed ∧ a = .fired then s'.setCause .skew else s'

/-! ### Entries (R62, R63) -/

/-- What an entry copies from a frame record. -/
def entryEye (n : Nat) (f : FrameRecord) : EntryEye :=
  { slot := n, captureStamp := f.captureStamp, frameCount := f.frameCount, countGap := f.countGap }

/-- The skew of two heads: LEFT capture stamp minus RIGHT capture stamp. -/
def skewOf (l r : FrameRecord) : Int := (l.captureStamp.toNat : Int) - r.captureStamp.toNat

/-- The PAIR entry of two heads (R62). -/
def State.pairEntry (s : State) (l r : Nat × FrameRecord) : Entry :=
  let member := s.matcher.member l.2.captureStamp
  { unit := s.matcher.nextUnit
    kind := .pair (skewOf l.2 r.2)
    left := some (entryEye l.1 l.2)
    right := some (entryEye r.1 r.2)
    takeNumber := if member then some s.matcher.takeNumber else none
    leftLens := s.selected .leftLens l.2.captureStamp
    rightLens := s.selected .rightLens r.2.captureStamp
    rig := s.selected .rig l.2.captureStamp
    measurement := none
    applied := none
    droppedSince := if member then some s.matcher.droppedSince else none
    disposition := if member then .deliver else .release
    state := .measuring }

/-- The ORPHAN entry of one head (R63). -/
def State.orphanEntry (s : State) (e : Eye) (h : Nat × FrameRecord) : Entry :=
  let lens := s.selected (lensPort e) h.2.captureStamp
  { unit := s.matcher.nextUnit
    kind := .orphan e (s.settings.matching.policy == .double)
    left := if e = .left then some (entryEye h.1 h.2) else none
    right := if e = .right then some (entryEye h.1 h.2) else none
    takeNumber := some s.matcher.takeNumber
    leftLens := if e = .left then lens else none
    rightLens := if e = .right then lens else none
    rig := s.selected .rig h.2.captureStamp
    measurement := none
    applied := some s.align.offset
    droppedSince := some s.matcher.droppedSince
    disposition := .deliver
    state := .ready }

/-- An entry joins the table with the next unit number (R64); a DELIVER entry takes the dropped-since count. -/
def PairMatcher.join (m : PairMatcher) (x : Entry) : PairMatcher :=
  { m with
    table := m.table ++ [x]
    nextUnit := m.nextUnit + 1#32
    droppedSince := if x.disposition = .deliver then 0 else m.droppedSince }

/-- Form the PAIR entry, in one act (R62). -/
def State.formPair (s : State) (l r : Nat × FrameRecord) : State :=
  let entry := s.pairEntry l r
  let s' := s.onStore fun f => (f.take .left l.1 l.2).take .right r.1 r.2
  let s'' := s'.onMatcher fun m =>
    { m.join entry with
      leftMark := WaitMark.clear
      rightMark := WaitMark.clear
      pairsFormed := Counter.inc m.pairsFormed }
  (s''.onAlign fun a => { a with looking := true }).updateSkew (skewOf l.2 r.2)

/-- Form the ORPHAN entry, in one act (R63). -/
def State.formOrphan (s : State) (e : Eye) (h : Nat × FrameRecord) : State :=
  let entry := s.orphanEntry e h
  (s.onStore fun f => f.take e h.1 h.2).onMatcher fun m =>
    { (m.join entry).setMark e WaitMark.clear with orphansFormed := Counter.inc m.orphansFormed }

/-- Release an orphan at once, counted as dropped (R57, R60). -/
def State.releaseOrphan (s : State) (e : Eye) (h : Nat × FrameRecord) : State :=
  (s.onStore fun f => f.releaseHead e h.1).onMatcher fun m =>
    { m.setMark e WaitMark.clear with
      droppedSince := inc16 m.droppedSince
      orphansDropped := Counter.inc m.orphansDropped }

/-- Dispose of an orphan by R57; none where it needs pair table room and there is none (R58, R59). -/
def State.disposeOrphan (s : State) (e : Eye) (h : Nat × FrameRecord) : Option State :=
  if s.matcher.member h.2.captureStamp && s.settings.matching.policy != .drop then
    if s.matcher.hasRoom then some (s.formOrphan e h) else none
  else some (s.releaseOrphan e h)

/-! ### The close check and the take close (R75, R76) -/

/-- The slot does not hold the close: it carries no capture stamp at or before the close stamp. -/
def Slot.clears (closeStamp : Option Stamp) (x : Slot) : Bool :=
  match closeStamp, x.frame with
  | some c, some f => decide (c.toNat < f.captureStamp.toNat)
  | _, _ => true

/-- The three conditions of R75. -/
def State.closable (s : State) : Bool :=
  s.store.slots.all (Slot.clears s.matcher.closeStamp) && s.delivery.copy.isNone && s.writer.canReserve

/-- The close completes: TAKE CLOSED placed, the take CLOSED, the reader told (R71, R76). -/
def State.completeClose (s : State) : State :=
  let m := s.matcher
  ((s.place (.takeClosed m.takeNumber m.openStamp (m.closeStamp.getD 0#48) m.takeRecords)).onMatcher fun m =>
    { m with take := .closed }).onReader CueReader.reportClosed

/-- A close check, in CLOSING and not in STOPPED: the close completes at the first one that finds the three conditions
(R75). -/
def State.closeCheck (s : State) : State :=
  if s.matcher.state ≠ .stopped ∧ s.matcher.take = .closing ∧ s.closable then s.completeClose else s

/-! ### The disposal pass (R51 to R54) -/

/-- Both queues have a head, neither expired: the comparison by the pair window (R52). -/
def State.compareHeads (s : State) (l r : Nat × FrameRecord) : Option State :=
  let d := skewOf l.2 r.2
  let w : Int := s.settings.matching.window
  if d < -w then s.disposeOrphan .left l
  else if w < d then s.disposeOrphan .right r
  else if s.matcher.hasRoom then some (s.formPair l r) else none

/-- Both queues have a head (R52, R53); LEFT first where both are expired (log 32). -/
def State.bothHeads (s : State) (l r : Nat × FrameRecord) : Option State :=
  if s.matcher.leftMark.expired then s.disposeOrphan .left l
  else if s.matcher.rightMark.expired then s.disposeOrphan .right r
  else s.compareHeads l r

/-- One queue has a head and the other is empty (R54). Where the other link is in FRAME_LOCK the head waits, whether or
not its own link is: R56's third row has a frame that joins after its own link's departure be an orphan at once there,
and following R54 is the model's choice (log 38). -/
def State.loneHead (s : State) (e : Eye) (h : Nat × FrameRecord) : Option State :=
  if (s.receiver (otherEye e)).sync = .frameLock ∧ (s.matcher.mark e).expired = false then none
  else s.disposeOrphan e h

/-- One examination of the heads with its act; none where the pass ends. -/
def State.examine (s : State) : Option State :=
  match s.head .left, s.head .right with
  | none, none => none
  | some l, some r => s.bothHeads l r
  | some l, none => s.loneHead .left l
  | none, some r => s.loneHead .right r

/-- At most `n` acts of a pass, each carried out whole with the close check of its disposal (R51, R75). -/
def State.passSteps : Nat → State → State
  | 0, s => s
  | n + 1, s =>
    match s.examine with
    | none => s
    | some s' => State.passSteps n s'.closeCheck

/-- A disposal pass (R51): every act takes a frame out of a queue, so the frames queued bound its acts. -/
def State.pass (s : State) : State :=
  if s.matcher.state = .stopped then s
  else State.passSteps (s.store.leftQueue.length + s.store.rightQueue.length) s

/-! ### Occasions (R50, R51, R75) -/

/-- A slot has moved: a disposal pass, and the close check that the move calls for (R35, R75). -/
def State.dispose (s : State) : State := s.pass.closeCheck

/-- A Link Receiver reports that its link has left FRAME_LOCK (R50). -/
def PairMatcher.leftLock (m : PairMatcher) : PairMatcher :=
  if m.state = .tracking then { m with state := .acquire, alarm := .armed } else m

/-- The matcher is told of a departure from FRAME_LOCK, and makes a pass (R50, R51). -/
def State.tellLeft (s : State) : State := (s.onMatcher PairMatcher.leftLock).pass

/-- A pace tick taken: the counts advanced, the pass, the close check (R51, R55, R75). -/
def State.takeTick (s : State) : State := s.advanceWaits.dispose

/-- The owed tick taken, if there is one (log 5). -/
def State.takeOwedTick (s : State) : State :=
  if s.matcher.tickOwed then (s.onMatcher fun m => { m with tickOwed := false }).takeTick else s

/-- Taking the tick would complete the take close. -/
def State.wouldClose (s : State) : Bool := s.matcher.take == .closing && s.takeTick.matcher.take == .closed

/-- A pace tick at the matcher: any owed tick, and then this one (R51, R55, R75). -/
def State.matcherTick (s : State) : State :=
  if s.matcher.state = .stopped then s else s.takeOwedTick.takeTick

/-- A pace tick whose order leaves the matcher out: where it would expire a waiting head or complete the take close it
stays owed, until PARTNER_WAIT_EXPIRY or TAKE_CLOSE_COMPLETION takes it (log 5). -/
def State.oweMatcherTick (s : State) : State :=
  if s.wouldExpire .left || s.wouldExpire .right || s.wouldClose then s.onMatcher fun m => { m with tickOwed := true }
  else s.takeTick

/-- A pace tick that the command's order leaves to the matcher itself. -/
def State.matcherTickLater (s : State) : State :=
  if s.matcher.state = .stopped then s else s.takeOwedTick.oweMatcherTick

/-- PARTNER_WAIT_EXPIRY (R55): the owed tick is taken, and the waiting head whose count reaches the partner wait
is marked expired and disposed of in the tick's pass. -/
def execPartnerWaitExpiry (s : State) : Outcome :=
  .next (if s.matcher.state = .stopped then s else s.takeOwedTick)

/-- TAKE_CLOSE_COMPLETION (R75, R76): the owed tick is taken, where its close check completes the close (log 6). -/
def execTakeCloseCompletion (s : State) : Outcome :=
  .next (if s.matcher.state ≠ .stopped ∧ s.matcher.take = .closing ∧ s.takeOwedTick.matcher.take = .closed then
    s.takeOwedTick
  else s)

end Sys2Proof.Machine
end

