-- ==== Sys2Proof/Machine/Align.lean ====
section
/-! DEFINITION. The Alignment Unit (06, R93 to R109): scoring, the validity of a measurement, the offset tracker,
MEASUREMENT_BEGIN and MEASUREMENT_DONE. -/

namespace Sys2Proof.Machine

/-! ### Scoring (R96) -/

/-- A profile at an output row, present and undamaged. -/
def usableProfile (ps : List RowProfile) (row : Int) : Option RowProfile :=
  ps.find? fun p => decide ((p.row : Int) = row) && !p.damaged

/-- The difference of two profiles, over the 32 bands. -/
def profileDifference (l r : RowProfile) : Nat :=
  (List.zipWith (fun a b : Nat => ((a : Int) - b).natAbs) l.samples r.samples).sum

/-- The difference of probe row `p` for candidate `d`, where the probe is usable. -/
def InProgress.probeDifference (m : InProgress) (d : Int) (p : Nat) : Option Nat :=
  match usableProfile m.left p, usableProfile m.right (p + d) with
  | some l, some r => some (profileDifference l r)
  | _, _ => none

/-- The score of a list of usable differences: at least 2 are needed, the fraction is discarded. -/
def scoreOf (ds : List Nat) : Option Nat := if 2 ≤ ds.length then some (ds.sum / ds.length) else none

/-- The score of a candidate. -/
def InProgress.score (m : InProgress) (d : Int) : Option Nat := scoreOf (m.rows.filterMap (m.probeDifference d))

/-- The candidate offsets from −W to +W. -/
def candidates (range : Nat) : List Int := (List.range (2 * range + 1)).map fun (i : Nat) => (i : Int) - range

/-- The scored candidates: an offset with its score. -/
def InProgress.scored (m : InProgress) : List (Int × Nat) :=
  (candidates m.range).filterMap fun d => (m.score d).map fun x => (d, x)

/-! ### The best candidate and the confidence (R97) -/

/-- The first candidate is better: a lower score, then a smaller magnitude, then the negative one. -/
def better (a b : Int × Nat) : Bool :=
  decide (a.2 < b.2) || (a.2 == b.2 && (decide (a.1.natAbs < b.1.natAbs) ||
    (a.1.natAbs == b.1.natAbs && decide (a.1 < b.1))))

/-- The best of the scored candidates. -/
def bestOf : List (Int × Nat) → Option (Int × Nat)
  | [] => none
  | c :: rest =>
    match bestOf rest with
    | none => some c
    | some b => if better b c then some b else some c

/-- The lowest score among candidates. -/
def lowestScore (cs : List (Int × Nat)) : Option Nat := (cs.map (·.2)).min?

/-- What a measurement comes to. -/
inductive Finding where
  /-- Measurement was disabled at the beginning (R98). -/
  | disabled
  | invalid
  | valid (m : Measurement)
deriving DecidableEq, Repr

/-- Measurement was enabled at the beginning (R93). -/
def InProgress.enabled (m : InProgress) : Bool := ({ rows := m.rows, range := m.range } : ProbeSetting).enabled

/-- The measurement by the best candidate and the lowest score among the others (R97). -/
def judgeScores (cs : List (Int × Nat)) (floor : Nat) : Finding :=
  match bestOf cs with
  | none => .invalid
  | some b =>
    match lowestScore (cs.filter fun c => c.1 != b.1) with
    | none => .invalid
    | some next =>
      if floor ≤ next - b.2 then .valid { offset := b.1, confidence := next - b.2 } else .invalid

/-- The finding at measurement done, with the confidence floor then in force. -/
def InProgress.finding (m : InProgress) (floor : Nat) : Finding :=
  if m.enabled then judgeScores m.scored floor else .disabled

/-! ### The offset tracker (R100 to R103) -/

/-- The candidate and the agreement count cleared. -/
def AlignmentUnit.clearRun (a : AlignmentUnit) : AlignmentUnit := { a with candidate := none, agreement := 0 }

/-- A becomes C where n has reached the settle count (R100). -/
def AlignmentUnit.settle (a : AlignmentUnit) (settleCount : Nat) : AlignmentUnit :=
  match a.candidate with
  | some c =>
    if settleCount ≤ a.agreement then { a.clearRun with offset := c, settles := Counter.inc a.settles } else a
  | none => a

/-- A valid measurement with offset `b` in AUTO, before the settle count is compared (R100). -/
def AlignmentUnit.agree (a : AlignmentUnit) (b : Int) : AlignmentUnit :=
  if b = a.offset then a.clearRun
  else if a.candidate = some b then { a with agreement := a.agreement + 1 }
  else { a with candidate := some b, agreement := 1 }

/-- A valid measurement at the tracker (R100, R101). -/
def AlignmentUnit.track (a : AlignmentUnit) (t : TrackSetting) (b : Int) : AlignmentUnit :=
  match t.mode with
  | .auto => (a.agree b).settle t.settleCount
  | .fixed => a

/-- A value clamped into −W..+W (R102). -/
def clamp (range : Nat) (x : Int) : Int := max (-(range : Int)) (min range x)

/-- An executed TRACK cue at the tracker: the mode before, the new setting, and W (R102). -/
def AlignmentUnit.onTrack (a : AlignmentUnit) (before : TrackMode) (t : TrackSetting) (range : Nat) :
    AlignmentUnit :=
  match before, t.mode with
  | .auto, .auto => a.clearRun
  | .auto, .fixed => { a.clearRun with offset := t.fixedOffset }
  | .fixed, .fixed => { a with offset := t.fixedOffset }
  | .fixed, .auto => { a with offset := clamp range a.offset }

/-- An executed FORMAT or ORIENT at the tracker (R103). -/
def AlignmentUnit.restart (a : AlignmentUnit) (t : TrackSetting) : AlignmentUnit :=
  match t.mode with
  | .auto => { a.clearRun with offset := 0 }
  | .fixed => { a with offset := t.fixedOffset }

/-- An executed PROBES at the tracker, with the new W (R103). -/
def AlignmentUnit.reclamp (a : AlignmentUnit) (t : TrackSetting) (range : Nat) : AlignmentUnit :=
  match t.mode with
  | .auto => { a.clearRun with offset := clamp range a.offset }
  | .fixed => a

/-! ### The beginning (R95) -/

/-- The unit looks for work in this run state (R95). -/
def RegisterWindow.measures (r : RegisterWindow) : Bool :=
  match r.run with
  | .running | .halted => true
  | .starting => r.startedHalted
  | .idle | .draining => false

/-- The oldest PAIR entry in MEASURING; only PAIR entries are ever in that state (R63). -/
def PairMatcher.oldestMeasuring (m : PairMatcher) : Option Entry := m.table.find? fun x => x.state == .measuring

/-- The profile set of one slot of an entry. -/
def State.profilesOf (s : State) (x : Option EntryEye) : List RowProfile :=
  ((x.bind fun v => (s.store.slot v.slot).frame).map (·.profiles)).getD []

/-- What the unit reads at a beginning (R95). -/
def State.inProgress (s : State) (x : Entry) : InProgress :=
  { unit := x.unit, rows := s.settings.probes.rows, range := s.settings.probes.range,
    left := s.profilesOf x.left, right := s.profilesOf x.right, begun := s.now }

/-- A measurement can begin: an occasion has come, the unit is IDLE, and it looks in this run state. -/
def State.canMeasure (s : State) : Bool := s.align.looking && s.align.busy.isNone && s.regs.measures

/-- MEASUREMENT_BEGIN (R95). -/
def execMeasurementBegin (s : State) : Outcome :=
  .next (if s.canMeasure then
    match s.matcher.oldestMeasuring with
    | none => s
    | some x => s.onAlign fun a => { a with busy := some (s.inProgress x), looking := false }
  else s)

/-! ### Measurement done (R99) -/

/-- The tracker and the counters after a finding (R99 step 1, R108). -/
def AlignmentUnit.take (a : AlignmentUnit) (t : TrackSetting) (f : Finding) : AlignmentUnit :=
  match f with
  | .disabled => a
  | .invalid => { a with invalid := Counter.inc a.invalid }
  | .valid m => { a.track t m.offset with valid := Counter.inc a.valid }

/-- The measurement field a finding gives the entry. -/
def Finding.field : Finding → Option Measurement
  | .valid m => some m
  | .invalid | .disabled => none

/-- The measured entry with its fields written, READY (R99 steps 2 and 3). -/
def Entry.measured (x : Entry) (f : Finding) (offset : Int) : Entry :=
  { x with measurement := f.field, applied := some offset, state := .ready }

/-- Change the MEASURING entries with a unit number; there is one. -/
def PairMatcher.onMeasuring (m : PairMatcher) (unit : BitVec 32) (g : Entry → Entry) : PairMatcher :=
  { m with table := m.table.map fun x => if x.unit = unit ∧ x.state = .measuring then g x else x }

/-- The slots an entry holds. -/
def Entry.slots (x : Entry) : List Nat := (x.left.toList ++ x.right.toList).map (·.slot)

/-- The slots of a removed entry go FREE (R30). -/
def FrameStore.releaseAll (f : FrameStore) (ns : List Nat) : FrameStore := ns.foldl FrameStore.release f

/-- An idle pair removed, its slots released, with the pass and the close check (R65, R99 step 4). -/
def State.removeIdle (s : State) (x : Entry) : State :=
  ((s.onMatcher fun m =>
    { m with table := m.table.erase x }).onStore
      (FrameStore.releaseAll · x.slots)).dispose

/-- Measurement done for an entry, steps 2 to 4 of R99. -/
def State.finishEntry (s : State) (x : Entry) (f : Finding) : State :=
  match x.disposition with
  | .deliver => s.onMatcher (PairMatcher.onMeasuring · x.unit fun y => y.measured f s.align.offset)
  | .release => s.removeIdle x

/-- Measurement done (R99): tracker, entry, and the unit IDLE and looking again. -/
def State.measurementDone (s : State) (m : InProgress) : State :=
  let f := m.finding s.settings.track.floor
  let s' := s.onAlign fun a => { a.take s.settings.track f with busy := none, looking := true }
  match s'.matcher.table.find? fun x => x.unit == m.unit && x.state == .measuring with
  | none => s'
  | some x => s'.finishEntry x f

/-- MEASUREMENT_DONE (R99). -/
def execMeasurementDone (s : State) : Outcome :=
  .next (match s.align.busy with
    | none => s
    | some m => s.measurementDone m)

end Sys2Proof.Machine
end

