-- ==== Sys2Proof/Machine/Delivery.lean ====
section
/-! DEFINITION. The Delivery Engine (07, R110 to R122; 06, R105 to R107): DELIVERY_START with the short target,
the copy's target writes, and COPY_COMPLETION. -/

namespace Sys2Proof.Machine

/-! ### The start (R114 to R116) -/

/-- The oldest entry, where it is READY with disposition DELIVER (R66, R114). -/
def PairMatcher.oldestReady (m : PairMatcher) : Option Entry :=
  match m.table with
  | x :: _ => if x.state = .ready ∧ x.disposition = .deliver then some x else none
  | [] => none

/-- A short target is discarded with its TARGET SHORT record (R116). -/
def State.shortTarget (s : State) (t : Target) (x : Entry) : State :=
  (s.onDelivery fun d => { d with targets := d.targets.tail, short := Counter.inc d.short }).place
    (.targetShort t.tag t.size x.unit)

/-- What the engine notes for the whole of the copy (R115 step 5). -/
def Settings.copy (x : Settings) (t : Target) : Copy :=
  { target := t, format := x.format, orientLeft := x.orientLeft, orientRight := x.orientRight,
    fill := x.track.fill, accepted := 0 }

/-- The oldest entry becomes DELIVERING. -/
def PairMatcher.deliverHead (m : PairMatcher) : PairMatcher :=
  { m with
    table := match m.table with
      | x :: rest => { x with state := .delivering } :: rest
      | [] => [] }

/-- The delivery begins: a place reserved, the target taken, the entry DELIVERING (R115). -/
def State.beginCopy (s : State) (t : Target) : State :=
  ((s.onWriter fun w => { w with reserved := w.reserved + 1 }).onDelivery fun d =>
    { d with targets := d.targets.tail, copy := some (s.settings.copy t) }).onMatcher PairMatcher.deliverHead

/-- The start with the head target and the oldest entry (R115). -/
def State.startDelivery (s : State) (t : Target) (x : Entry) : State :=
  if t.size.toNat < s.settings.format.targetBytes then s.shortTarget t x else s.beginCopy t

/-- The conditions of R114 on the engine, the queue and the run state. -/
def State.canDeliver (s : State) : Bool :=
  s.delivery.copy.isNone && s.writer.canReserve && s.regs.run == .running

/-- DELIVERY_START (R114 to R116). -/
def execDeliveryStart (s : State) : Outcome :=
  .next (if s.canDeliver then
    match s.matcher.oldestReady, s.delivery.targets with
    | some x, t :: _ => s.startDelivery t x
    | _, _ => s
  else s)

/-! ### The pictures (R105 to R107, R117) -/

/-- Output row `r` of an eye's oriented picture (R117). -/
def Copy.orientedRow (c : Copy) (mem : Memory) (o : Orientation) (slot r : Nat) : List Byte :=
  let stored := Memory.readBytes mem (rowAddress c.format slot (o.row c.format.height r)) c.format.rowBytes
  if o.flipsColumns then pack c.format.depth (unpack c.format.depth stored).reverse else stored

/-- A fill row: every pixel the fill value, its low bits kept (R106). -/
def Copy.fillRow (c : Copy) : List Byte :=
  pack c.format.depth (List.replicate c.format.width (c.fill.toNat % 2 ^ c.format.depth.bits))

/-- Output row `r` of the right picture with applied offset `a` (R105). -/
def Copy.shiftedRow (c : Copy) (mem : Memory) (slot r : Nat) (a : Int) : List Byte :=
  let x : Int := r + a
  if 0 ≤ x ∧ x < c.format.height then c.orientedRow mem c.orientRight slot x.toNat else c.fillRow

/-- Output row `r` of the left half; none where it is left unwritten (R105, R107). -/
def Copy.leftRow (c : Copy) (mem : Memory) (x : Entry) (r : Nat) : Option (List Byte) :=
  match x.kind with
  | .pair _ | .orphan .left _ => x.left.map fun v => c.orientedRow mem c.orientLeft v.slot r
  | .orphan .right true => x.right.map fun v => c.orientedRow mem c.orientRight v.slot r
  | .orphan .right false => none

/-- Output row `r` of the right half; none where it is left unwritten (R105, R107). -/
def Copy.rightRow (c : Copy) (mem : Memory) (x : Entry) (r : Nat) : Option (List Byte) :=
  match x.kind with
  | .pair _ | .orphan .right false => x.right.map fun v => c.shiftedRow mem v.slot r (x.applied.getD 0)
  | .orphan .right true => x.right.map fun v => c.orientedRow mem c.orientRight v.slot r
  | .orphan .left true => x.left.map fun v => c.orientedRow mem c.orientLeft v.slot r
  | .orphan .left false => none

/-- The target row position of a left output row, in rows from the target's start (R118). -/
def FormatSetting.leftPlace (f : FormatSetting) (r : Nat) : Nat :=
  match f.packing with
  | .sequential => r
  | .rowPaired => 2 * r

/-- The target row position of a right output row (R118). -/
def FormatSetting.rightPlace (f : FormatSetting) (r : Nat) : Nat :=
  match f.packing with
  | .sequential => f.height + r
  | .rowPaired => 2 * r + 1

/-- The write of one output row at its target row position. -/
def Copy.rowWrite (c : Copy) (place : Nat) (bytes : List Byte) : HostWrite :=
  { address := c.target.address.toNat + place * c.format.rowBytes, bytes := bytes }

/-- The write of left output row `r`. -/
def Copy.leftWrite (c : Copy) (mem : Memory) (x : Entry) (r : Nat) : Option HostWrite :=
  (c.leftRow mem x r).map (c.rowWrite (c.format.leftPlace r))

/-- The write of right output row `r`. -/
def Copy.rightWrite (c : Copy) (mem : Memory) (x : Entry) (r : Nat) : Option HostWrite :=
  (c.rightRow mem x r).map (c.rowWrite (c.format.rightPlace r))

/-- The target writes in increasing order of target offset (R119). -/
def Copy.writes (c : Copy) (mem : Memory) (x : Entry) : List HostWrite :=
  let rows := List.range c.format.height
  match c.format.packing with
  | .sequential => rows.filterMap (c.leftWrite mem x) ++ rows.filterMap (c.rightWrite mem x)
  | .rowPaired => rows.flatMap fun r => (c.leftWrite mem x r).toList ++ (c.rightWrite mem x r).toList

/-- The target writes not yet accepted, in their order. -/
def Copy.remaining (c : Copy) (mem : Memory) (x : Entry) : List HostWrite := (c.writes mem x).drop c.accepted

/-! ### Completion (R121) -/

/-- The DELIVERING entry. -/
def PairMatcher.delivering (m : PairMatcher) : Option Entry := m.table.find? fun x => x.state == .delivering

/-- One eye's fields, from the entry and the frame record of its HELD slot. -/
def State.eyeFields (s : State) (v : EntryEye) : EyeFields :=
  let f := (s.store.slot v.slot).frame
  { captureStamp := v.captureStamp, frameCount := v.frameCount, countGap := v.countGap,
    damagedRows := (f.map (·.damagedRows)).getD 0, flaws := (f.map (·.flaws)).getD ⟨false, false, false⟩ }

/-- The record of a completed delivery (R121 step 1). -/
def State.deliveryRecord (s : State) (c : Copy) (x : Entry) : DeliveryRecord :=
  { kind := x.kind, tag := c.target.tag, droppedSince := x.droppedSince.getD 0, unit := x.unit,
    takeNumber := x.takeNumber, left := x.left.map s.eyeFields, right := x.right.map s.eyeFields,
    applied := x.applied.getD 0, measurement := x.measurement, leftLens := x.leftLens,
    rightLens := x.rightLens, rig := x.rig }

/-- The take count (R76, R121 step 2) and the removal of the entry (step 3). In DRAINING too the count is raised, as R122
has the delivery complete by R121, although R79 has the take frozen as it stands: the model's choice, log 36. -/
def PairMatcher.delivered (m : PairMatcher) (x : Entry) : PairMatcher :=
  { m with
    takeRecords := if x.takeNumber.isSome then Counter.inc m.takeRecords else m.takeRecords
    table := m.table.erase x }

/-- The counters of a completed delivery (R121 step 4), and the engine IDLE. -/
def DeliveryEngine.completed (d : DeliveryEngine) (k : EntryKind) : DeliveryEngine :=
  match k with
  | .pair _ => { d with copy := none, pairs := Counter.inc d.pairs }
  | .orphan _ false => { d with copy := none, singles := Counter.inc d.singles }
  | .orphan _ true => { d with copy := none, doubles := Counter.inc d.doubles }

/-- The accepted target writes join what the Bus Port carries, in order (R119, R120). -/
def State.carryAll (s : State) (ws : List HostWrite) : State :=
  { s with carried := s.carried ++ ws.map BusItem.write }

/-- The next `n` target writes to be accepted, the last write of the copy never among them. -/
def Copy.nextRows (c : Copy) (mem : Memory) (x : Entry) (n : Nat) : List HostWrite :=
  (c.remaining mem x).dropLast.take n

/-- The Bus Port accepts the next target writes, one after another; the copy goes on (R119, R195). -/
def State.acceptRows (s : State) (c : Copy) (x : Entry) (n : Nat) : State :=
  (s.carryAll (c.nextRows s.store.mem x n)).onDelivery fun d =>
    { d with copy := some { c with accepted := c.accepted + (c.nextRows s.store.mem x n).length } }

/-- Copy completion for the DELIVERING entry, in one act, with the acceptance of the writes that remain (R121). -/
def State.completeCopy (s : State) (c : Copy) (x : Entry) : State :=
  let s₁ := (s.carryAll (c.remaining s.store.mem x)).placeReserved (.delivery (s.deliveryRecord c x))
  let s₂ := ((s₁.onMatcher fun m => m.delivered x).onStore (FrameStore.releaseAll · x.slots)).onDelivery fun d =>
    d.completed x.kind
  s₂.dispose.onReader CueReader.reportPair

/-- COPY_COMPLETION (R120, R121), with bus mastering on (R196): the Bus Port accepts the target writes that remain, the
last of them completing the copy. With `some n` it accepts only the next `n` of them and the copy goes on, so that other
accesses may be accepted between two target writes (R195, log 19). -/
def execCopyCompletion (s : State) (writes : Option Nat := none) : Outcome :=
  .next (match s.delivery.copy, s.matcher.delivering with
    | some c, some x =>
      if s.regs.busMaster then
        match writes with
        | none => s.completeCopy c x
        | some n => s.acceptRows c x n
      else s
    | _, _ => s)

/-- The target writes of a delivery in flight that the Bus Port has not accepted. -/
def State.copyWrites (s : State) : List HostWrite :=
  match s.delivery.copy, s.matcher.delivering with
  | some c, some x => c.remaining s.store.mem x
  | _, _ => []

end Sys2Proof.Machine
end

