-- ==== Sys2Proof/Machine/Link.lean ====
section
/-! DEFINITION. The Link Receivers (01, R1 to R20): synchronisation, the flywheel, frame capture and completion;
HUNT_MARK_FOUND, VERIFY_MARK, ROW_POSITION, FRAME_HEAD, FRAME_TAIL, FILL_UNIT and SILENCE_EXPIRY. Positions are
numbers of bytes on the link (log 13). -/

namespace Sys2Proof.Machine

/-! ### Counters and slots -/

/-- Change a receiver's counters. -/
def Receiver.count (r : Receiver) (f : LinkCounters → LinkCounters) : Receiver :=
  { r with counters := f r.counters }

/-- Cut the frame being filled, counted (R11, R26); the slot's move calls for a close check (R75). -/
def State.cutFilling (s : State) (e : Eye) : State :=
  match (s.receiver e).filling with
  | none => s
  | some f =>
    ((s.onStore (FrameStore.cut · f.slot)).onReceiver e fun r =>
      { r with filling := none }.count fun c => { c with cuts := Counter.inc c.cuts }).closeCheck

/-! ### Changes of sync state -/

/-- Entry to HUNT: history emptied, silence count 0, the scan from the first byte not yet examined (R4); L is no
longer in force (R5). -/
def Receiver.enterHunt (scan : Nat) (r : Receiver) : Receiver :=
  { r with sync := .hunt, rowLength := none, history := [], silence := 0, scanFrom := scan, furtherMarks := 0 }

/-- Entry to OFF: row length, history and expectation dropped (R10); the scan that follows goes on past
the bytes discarded in OFF (R4). -/
def Receiver.enterOff (r : Receiver) : Receiver :=
  { r with sync := .off, rowLength := none, history := [], expectation := none }

/-- Entry to ROW_LOCK: silence count 0 (R7). -/
def Receiver.enterRowLock (r : Receiver) : Receiver := { r with sync := .rowLock, silence := 0 }

/-- A change of sync state; out of FRAME_LOCK it cuts the filling frame, sets LINK and tells the matcher
(R11). A frame the eye has completed has joined before (R56, last paragraph), so no join follows the departure: the
second order of R56's third row does not come about, by the model's choice (log 38). -/
def State.changeSync (s : State) (e : Eye) (g : Receiver → Receiver) : State :=
  if (s.receiver e).sync = .frameLock then
    (((s.cutFilling e).onReceiver e g).setCause .link).tellLeft
  else s.onReceiver e g

/-! ### OFF (R3, R4) -/

/-- The link has delivered the eight bytes at a position, and the receiver has discarded them: the scan that follows OFF
begins past them (R4). -/
def Receiver.discardAt (r : Receiver) (position : Nat) : Receiver :=
  { r with scanFrom := max r.scanFrom (position + 8) }

/-- The link has delivered the next `length` bytes, past the units placed, and the receiver has discarded them. -/
def Receiver.discardNext (r : Receiver) (length : Nat) : Receiver :=
  { r with scanFrom := max r.scanFrom r.nextPosition + length }

/-- In OFF the bytes of a link command are discarded (R3); in every other state the command has its effect. -/
def State.unlessOff (s : State) (e : Eye) (discarded : Receiver → Receiver) (effect : State) : State :=
  if (s.receiver e).sync = .off then s.onReceiver e discarded else effect

/-! ### LINK -/

/-- LINK disable, and the start of DRAINING: OFF from whatever state; already OFF is unchanged (R10). -/
def State.linkOff (s : State) (e : Eye) : State :=
  if (s.receiver e).sync = .off then s else s.changeSync e Receiver.enterOff

/-- LINK enable: OFF enters HUNT, any other state is unchanged (R3). -/
def State.linkOn (s : State) (e : Eye) : State :=
  if (s.receiver e).sync = .off then s.onReceiver e fun r => r.enterHunt r.scanFrom else s

/-- Entry to FRAME_LOCK: the expectation cleared, silence count 0, LINK set, matcher and reader told (R8). -/
def State.enterFrameLock (s : State) (e : Eye) : State :=
  let s' := ((s.onReceiver e fun r => { r with sync := .frameLock, expectation := none, silence := 0 }).setCause
    .link).pass
  s'.onReader (CueReader.reportLock · (s'.left.sync == .frameLock && s'.right.sync == .frameLock))

/-! ### Judging marks (R6) -/

/-- The expected row number. -/
def Receiver.expectedRow (r : Receiver) : Nat :=
  if r.boundary then 0 else (r.rowNumber + 1) % Config.rowNumbers

/-- The mark is good. -/
def Receiver.judge (r : Receiver) (mark : BitVec 64) : Bool :=
  isMark mark && markCheck mark && markRow mark == r.expectedRow

/-- A judgment recorded, newest first, the last 8 kept. -/
def pushHistory (good : Bool) (h : List Bool) : List Bool := (good :: h).take Config.historyRoom

/-- Two or more of the four newest entries are bad. -/
def lostAlignment (h : List Bool) : Bool := decide (2 ≤ (h.take 4).countP fun g => !g)

/-- The bytes examined for the judgment of a position (R4). -/
def examined (mark : BitVec 64) : Nat := if isMark mark then 8 else 4

/-- A row position placed whole: judged, its row number the expected one, the next position L further on (R2, R6). -/
def Receiver.placeRow (r : Receiver) (good : Bool) (length : Nat) : Receiver :=
  { r with
    history := pushHistory good r.history
    rowNumber := r.expectedRow
    boundary := false
    nextPosition := r.nextPosition + length
    scanFrom := r.nextPosition + length }

/-! ### HUNT and VERIFY (R4, R5) -/

/-- The found mark: good in the history, its row number and position noted, its eight bytes examined; VERIFY. -/
def Receiver.foundMark (r : Receiver) (position row : Nat) : Receiver :=
  { r with
    sync := .verify
    rowLength := none
    history := pushHistory true r.history
    rowNumber := row
    boundary := false
    foundPosition := position
    nextPosition := position
    scanFrom := position + 8
    furtherMarks := 0 }

/-- The pattern at the position is the found mark of HUNT. -/
def Receiver.finds (r : Receiver) (position : Nat) (mark : BitVec 64) : Bool :=
  r.sync == .hunt && decide (r.scanFrom ≤ position) && isMark mark && markCheck mark &&
    decide (markRow mark < Config.rowNumbers)

/-- HUNT_MARK_FOUND (R4); in OFF the bytes are discarded. -/
def execHuntMarkFound (e : Eye) (position : Nat) (mark : BitVec 64) (s : State) : Outcome :=
  .next (s.unlessOff e (·.discardAt position) (if (s.receiver e).finds position mark then
    s.onReceiver e fun r => r.foundMark position (markRow mark) else s))

/-- The first further mark is good: it gives the row length L. -/
def Receiver.firstMark (r : Receiver) (position : Nat) : Receiver :=
  { r with
    rowLength := some (position - r.foundPosition)
    history := pushHistory true r.history
    rowNumber := r.expectedRow
    boundary := false
    nextPosition := position + (position - r.foundPosition)
    scanFrom := position + 8
    furtherMarks := 1 }

/-- The scan for the first further mark, at a position past the found mark (R5): past 8,202 bytes it has failed;
a position without the pattern is no event. -/
def Receiver.scanMark (r : Receiver) (position : Nat) (mark : BitVec 64) : Receiver :=
  if position < r.foundPosition + 8 then r
  else if r.foundPosition + Config.maxRowLength < position then
    r.enterHunt (r.foundPosition + Config.maxRowLength + 1)
  else if !isMark mark then r
  else if r.judge mark then r.firstMark position
  else r.enterHunt (position + 8)

/-- A good row position of VERIFY, of which the mark is examined (R4): the third further mark enters ROW_LOCK. -/
def Receiver.furtherMark (r : Receiver) (length : Nat) : Receiver :=
  let r' := { r.placeRow true length with furtherMarks := r.furtherMarks + 1, scanFrom := r.nextPosition + 8 }
  if 3 ≤ r.furtherMarks + 1 then r'.enterRowLock else r'

/-- A row position of VERIFY (R5): any bad mark fails verification. -/
def Receiver.verifyRow (r : Receiver) (length : Nat) (mark : BitVec 64) : Receiver :=
  if r.judge mark then r.furtherMark length else r.enterHunt (r.nextPosition + examined mark)

/-- VERIFY_MARK in VERIFY: the scan while there is no L, and otherwise a row position. -/
def Receiver.verify (r : Receiver) (position : Nat) (mark : BitVec 64) : Receiver :=
  match r.rowLength with
  | none => r.scanMark position mark
  | some length => if position = r.nextPosition ∧ isOpener mark = false then r.verifyRow length mark else r

/-- VERIFY_MARK (R5); in OFF the bytes are discarded. -/
def execVerifyMark (e : Eye) (position : Nat) (mark : BitVec 64) (s : State) : Outcome :=
  .next (s.unlessOff e (·.discardAt position)
    (if (s.receiver e).sync = .verify then s.onReceiver e fun r => r.verify position mark else s))

/-! ### Rows (R6, R15, R16) -/

/-- The output row of a filling frame's row index. -/
def Filling.outputRow (f : Filling) : Nat := f.orientation.row f.format.height f.rowsReceived

/-- The frame record after a written row. -/
def Filling.recordRow (f : Filling) (frame : FrameRecord) (data : List Byte) (damaged : Bool) : FrameRecord :=
  { frame with
    damagedRows := if damaged then frame.damagedRows + 1 else frame.damagedRows
    profiles := if f.profileRows.contains f.outputRow then
        frame.profiles ++ [{ row := f.outputRow, samples := profileSamples f.format f.orientation data,
                             damaged := damaged }]
      else frame.profiles }

/-- A row written to its slot at its row index. -/
def Filling.writeRow (f : Filling) (data : List Byte) (damaged : Bool) (st : FrameStore) : FrameStore :=
  let st' := { st with mem := Memory.writeBytes st.mem (rowAddress f.format f.slot f.rowsReceived) data }
  match st.slot f.slot with
  | .filling frame => st'.setSlot f.slot (.filling (f.recordRow frame data damaged))
  | _ => st

/-- The filling frame after a row position: counted, its computed row check added to the frame check (R1). -/
def Filling.afterRow (f : Filling) (data : List Byte) : Filling :=
  { f with rowsReceived := f.rowsReceived + 1, frameCheck := f.frameCheck + (wordSum data).setWidth 32 }

/-- One damaged row counted. -/
def LinkCounters.damage (c : LinkCounters) (n : Nat) : LinkCounters :=
  { c with damagedRows := Counter.add c.damagedRows n }

/-- A row of a filling frame (R15): written where its index is below H, and counted. -/
def State.fillRow (s : State) (e : Eye) (f : Filling) (good : Bool) (body : List Byte) : State :=
  let damaged := !good || !rowCheckGood body
  let s' := s.onReceiver e fun r => { r with filling := some (f.afterRow (rowData body)) }
  if f.rowsReceived < f.format.height then
    (s'.onStore (f.writeRow (rowData body) damaged)).onReceiver e fun r =>
      r.count fun c => if damaged then c.damage 1 else c
  else s'

/-- A row position in ROW_LOCK or FRAME_LOCK (R6, R8, R9). -/
def State.lockedRow (s : State) (e : Eye) (length : Nat) (mark : BitVec 64) (body : List Byte) : State :=
  let r := s.receiver e
  let good := r.judge mark
  if !good && lostAlignment (pushHistory good r.history) then
    s.changeSync e (Receiver.enterHunt (r.nextPosition + examined mark))
  else
    let s' := s.onReceiver e fun r => r.placeRow good length
    match r.filling with
    | none => s'
    | some f => s'.fillRow e f good body

/-- A row position taken, at row length L. -/
def State.takeRow (s : State) (e : Eye) (length : Nat) (mark : BitVec 64) (body : List Byte) : State :=
  match (s.receiver e).sync with
  | .verify => s.onReceiver e fun r => r.verifyRow length mark
  | .rowLock | .frameLock => s.lockedRow e length mark body
  | .off | .hunt => s

/-- A row position where a row length is in force: the L bytes at the expected position, which hold none of the three
openers (R2). -/
def State.rowAtPosition (s : State) (e : Eye) (mark : BitVec 64) (body : List Byte) : State :=
  match (s.receiver e).rowLength with
  | none => s
  | some length => if body.length + 8 = length ∧ isOpener mark = false then s.takeRow e length mark body else s

/-- ROW_POSITION (R6, R15); in OFF the bytes are discarded. -/
def execRowPosition (e : Eye) (mark : BitVec 64) (body : List Byte) (s : State) : Outcome :=
  .next (s.unlessOff e (·.discardNext (body.length + 8)) (s.rowAtPosition e mark body))

/-! ### Frame arrival (R12 to R14) -/

/-- The capture stamp: the arrival stamp minus the readout latency, or 0 (R14). -/
def captureStamp (arrival : Stamp) (latency : Nat) : Stamp := BitVec.ofNat 48 (arrival.toNat - latency)

/-- The count gap, absent where there is no expectation (R14). -/
def countGap (r : Receiver) (head : BitVec 192) : Option (BitVec 16) := r.expectation.map fun x => headCount head - x

/-- The expectation set and the gap counted, for every arrival (R14). -/
def Receiver.arrive (r : Receiver) (head : BitVec 192) : Receiver :=
  { r with
    expectation := some (headCount head + 1#16)
    counters := { r.counters with
      countGaps := Counter.add r.counters.countGaps (((countGap r head).map BitVec.toNat).getD 0) } }

/-- The arrival passes the format check (R12). -/
def formatAgrees (f : FormatSetting) (r : Receiver) (head : BitVec 192) : Bool :=
  headAgrees head f && r.rowLength == some f.linkRow

/-- The frame record at allocation (R13, R23). -/
def newFrame (e : Eye) (head : BitVec 192) (capture : Stamp) (gap : Option (BitVec 16)) : FrameRecord :=
  { eye := e, frameCount := headCount head, captureStamp := capture, countGap := gap, damagedRows := 0,
    flaws := ⟨false, false, false⟩, profiles := [] }

/-- One eye's orientation. -/
def Settings.orient (x : Settings) : Eye → Orientation
  | .left => x.orientLeft
  | .right => x.orientRight

/-- What a receiver notes at the head of a frame it fills (R16). -/
def Settings.newFilling (x : Settings) (e : Eye) (slot : Nat) : Filling :=
  { slot := slot, rowsReceived := 0, frameCheck := 0#32,
    profileRows := profiledRows x.probes x.format.height e, orientation := x.orient e, format := x.format }

/-- A slip: counted, with the SLIP cause (R13). -/
def State.slip (s : State) (e : Eye) : State :=
  (s.onReceiver e fun r => r.count fun c => { c with slips := Counter.inc c.slips }).setCause .slip

/-- The granted claim: a FREE slot becomes FILLING (R24). -/
def State.beginFill (s : State) (e : Eye) (n : Nat) (frame : FrameRecord) : State :=
  ((s.onStore fun f => f.setSlot n (.filling frame)).onReceiver e fun r =>
    { r with filling := some (s.settings.newFilling e n) }).closeCheck

/-- The slip check (R13). -/
def State.claim (s : State) (e : Eye) (frame : FrameRecord) : State :=
  match s.store.grant e with
  | none => s.slip e
  | some n => s.beginFill e n frame

/-- A frame arrival (R12 to R14). -/
def State.arrival (s : State) (e : Eye) (head : BitVec 192) : State :=
  let r := s.receiver e
  let frame := newFrame e head (captureStamp s.now (headLatency head)) (countGap r head)
  let s' := s.onReceiver e fun r => r.arrive head
  if formatAgrees s.settings.format r head then s'.claim e frame
  else s'.onReceiver e fun r => r.count fun c => { c with mismatches := Counter.inc c.mismatches }

/-! ### Completion (R17) -/

/-- The flaw set at completion, by a Frame Tail or by a Frame Head. -/
def Filling.flaws (f : Filling) (tail : Option (BitVec 128)) : Flaws :=
  match tail with
  | some t =>
    { tailMissing := false
      rowCount := tailRows t != f.format.height || f.rowsReceived != f.format.height
      frameCheck := tailCheck t != f.frameCheck }
  | none => { tailMissing := true, rowCount := f.rowsReceived != f.format.height, frameCheck := false }

/-- The flaw set is not empty. -/
def Flaws.any (f : Flaws) : Bool := f.tailMissing || f.rowCount || f.frameCheck

/-- The rows that were never written. -/
def Filling.missing (f : Filling) : Nat := f.format.height - f.rowsReceived

/-- The frame record completed (R17, R23). -/
def Filling.completed (f : Filling) (tail : Option (BitVec 128)) (frame : FrameRecord) : FrameRecord :=
  { frame with damagedRows := frame.damagedRows + f.missing, flaws := f.flaws tail }

/-- The counters at completion. -/
def Filling.completionCount (f : Filling) (tail : Option (BitVec 128)) (c : LinkCounters) : LinkCounters :=
  { c.damage f.missing with flawed := if (f.flaws tail).any then Counter.inc c.flawed else c.flawed }

/-- The completion of the frame being filled: flaws, rows missing, queue join, matcher (R17), in one act. That no
departure of the eye's link comes between the completion and the join, as R56's last paragraph has it and its third row
does not, is the model's choice (log 38). -/
def State.completeFrame (s : State) (e : Eye) (f : Filling) (tail : Option (BitVec 128)) : State :=
  match s.store.slot f.slot with
  | .filling frame =>
    ((s.onStore fun st => st.complete e f.slot (f.completed tail frame)).onReceiver e fun r =>
      { r with filling := none }.count (f.completionCount tail)).dispose
  | _ => s.onReceiver e fun r => { r with filling := none }

/-- Complete the frame being filled, if there is one. -/
def State.completeIfFilling (s : State) (e : Eye) (tail : Option (BitVec 128)) : State :=
  match (s.receiver e).filling with
  | none => s
  | some f => s.completeFrame e f tail

/-! ### Frame Heads, Frame Tails and Fill units -/

/-- A unit placed at the expected position and taken whole: the next position follows it (R2). -/
def Receiver.passUnit (r : Receiver) (length : Nat) : Receiver :=
  { r with nextPosition := r.nextPosition + length, scanFrom := r.nextPosition + length }

/-- A Frame Head or Frame Tail placed: the next expected row number is 0 (R6). -/
def Receiver.passBoundary (r : Receiver) (length : Nat) : Receiver :=
  { r.passUnit length with boundary := true }

/-- The receiver places units at row length L: VERIFY with L known, ROW_LOCK, FRAME_LOCK (R2). -/
def Receiver.places (r : Receiver) : Bool :=
  match r.sync with
  | .verify | .rowLock | .frameLock => r.rowLength.isSome
  | .off | .hunt => false

/-- A Frame Head with a bad head check is counted (R8, R9). -/
def State.countBadHead (s : State) (e : Eye) : State :=
  s.onReceiver e fun r => r.count fun c => { c with headDamaged := Counter.inc c.headDamaged }

/-- A Frame Head in ROW_LOCK (R8). -/
def State.headInRowLock (s : State) (e : Eye) (head : BitVec 192) : State :=
  if headCheckGood head then (s.enterFrameLock e).arrival e head else s.countBadHead e

/-- A Frame Head in FRAME_LOCK (R9). A good one first completes a filling frame with its queue join and the matcher's
pass, and then makes its own allocation claim (R13). With no slot FREE, R31 leaves a release (R29) of that pass and the
claim in either order; the pass first is the model's choice (log 35). -/
def State.headInFrameLock (s : State) (e : Eye) (head : BitVec 192) : State :=
  if headCheckGood head then
    ((s.onReceiver e fun r => { r with silence := 0 }).completeIfFilling e none).arrival e head
  else (s.countBadHead e).changeSync e Receiver.enterRowLock

/-- A Frame Head taken (R8, R9); in VERIFY it is skipped (R5, log 23). -/
def State.takeHead (s : State) (e : Eye) (head : BitVec 192) : State :=
  let s' := s.onReceiver e fun r => r.passBoundary 24
  match (s.receiver e).sync with
  | .rowLock => s'.headInRowLock e head
  | .frameLock => s'.headInFrameLock e head
  | .off | .hunt | .verify => s'

/-- FRAME_HEAD (R8, R9, R12 to R14); in OFF the bytes are discarded. -/
def execFrameHead (e : Eye) (head : BitVec 192) (s : State) : Outcome :=
  .next (s.unlessOff e (·.discardNext 24)
    (if (s.receiver e).places && leading head == Config.headOpener then s.takeHead e head else s))

/-- A Frame Tail taken: in FRAME_LOCK it completes a filling frame, and elsewhere it is skipped (R8, R9). -/
def State.takeTail (s : State) (e : Eye) (tail : BitVec 128) : State :=
  let s' := s.onReceiver e fun r => r.passBoundary 16
  if (s.receiver e).sync = .frameLock then s'.completeIfFilling e (some tail) else s'

/-- FRAME_TAIL (R9, R17); in OFF the bytes are discarded. -/
def execFrameTail (e : Eye) (tail : BitVec 128) (s : State) : Outcome :=
  .next (s.unlessOff e (·.discardNext 16)
    (if (s.receiver e).places && leading tail == Config.tailOpener then s.takeTail e tail else s))

/-- FILL_UNIT (R9): skipped wherever it falls; the expected row number stays (R6). In OFF the bytes are discarded. -/
def execFillUnit (e : Eye) (fill : BitVec 64) (s : State) : Outcome :=
  .next (s.unlessOff e (·.discardNext 8) (if (s.receiver e).places && leading fill == Config.fillOpener then
    s.onReceiver e fun r => r.passUnit 8 else s))

/-! ### Silence (R7) -/

/-- The silence count increased, below 2. -/
def Receiver.raiseSilence (r : Receiver) : Receiver := { r with silence := r.silence + 1 }

/-- A tick taken by a receiver (R7): reaching 2, FRAME_LOCK moves to ROW_LOCK and ROW_LOCK to HUNT. -/
def State.takeSilenceTick (s : State) (e : Eye) : State :=
  let r := s.receiver e
  match r.sync with
  | .frameLock =>
    if r.silence + 1 < 2 then s.onReceiver e Receiver.raiseSilence else s.changeSync e Receiver.enterRowLock
  | .rowLock =>
    if r.silence + 1 < 2 then s.onReceiver e Receiver.raiseSilence
    else s.changeSync e (Receiver.enterHunt r.scanFrom)
  | .off | .hunt | .verify => s

/-- The owed tick taken, if there is one (log 5). -/
def State.takeOwedSilence (s : State) (e : Eye) : State :=
  if (s.receiver e).tickOwed then
    (s.onReceiver e fun r => { r with tickOwed := false }).takeSilenceTick e
  else s

/-- The tick would take the silence count to 2. -/
def Receiver.wouldExpire (r : Receiver) : Bool :=
  match r.sync with
  | .rowLock | .frameLock => decide (2 ≤ r.silence + 1)
  | .off | .hunt | .verify => false

/-- A pace tick at one receiver: any owed tick, and then this one (R7). -/
def State.linkTick (s : State) (e : Eye) : State := (s.takeOwedSilence e).takeSilenceTick e

/-- A pace tick that the command's order leaves to the receiver itself: where it would expire the silence count it
stays owed, until SILENCE_EXPIRY takes it (log 5). -/
def State.linkTickLater (s : State) (e : Eye) : State :=
  let s' := s.takeOwedSilence e
  if (s'.receiver e).wouldExpire then s'.onReceiver e fun r => { r with tickOwed := true }
  else s'.takeSilenceTick e

/-- SILENCE_EXPIRY (R7): the owed tick is taken, and the silence count reaches 2. -/
def execSilenceExpiry (e : Eye) (s : State) : Outcome := .next (s.takeOwedSilence e)

end Sys2Proof.Machine
end

