-- ==== Sys2Proof/Machine/Reader.lean ====
section
/-! DEFINITION. The Cue Reader (08, R135 to R160): fetching, the checks of R142 in their order, stalls, holds,
faults, parking and waits; CUE_FETCH_RETURN, FAULT_RECORD_PLACED and WAIT_END. -/

namespace Sys2Proof.Machine

/-! ### The checks of R142 -/

/-- What the checks find at the cursor. -/
inductive Verdict where
  /-- The code byte is not yet valid: the reader stays RUNNING and waits for it. -/
  | needByte
  | stall
  | fault (code : FaultCode)
  | hold (c : Cue) (reason : HoldReason)
  /-- Every check passes: the cue executes (PARK parks). -/
  | ready (c : Cue)
deriving DecidableEq, Repr

/-- Check 2: the fault of a cue that may not follow an eye prefix (R147). -/
def prefixFault (p : Option EyeChoice) (n : CueName) : Option FaultCode :=
  if p.isNone || n.mayFollowPrefix then none
  else if n = .eye then some .prefixTwice
  else some .prefixMisplaced

/-- The state checks, last of check 5 (R161). -/
def State.stateFault (s : State) (c : Cue) : Option FaultCode :=
  match c with
  | .call _ => if s.reader.stack.length < Config.returnDepth then none else some .callDepth
  | .ret => if s.reader.stack.isEmpty then some .returnEmpty else none
  | .openTake _ => if s.matcher.take = .opened then some .takeNested else none
  | .closeTake =>
    match s.matcher.take with
    | .opened => none
    | .closed => some .noTake
    | .closing => some .takeNested
  | _ => none

/-- The hold of a cue that needs a pending-results place. -/
def State.roomHold (s : State) : Option HoldReason := if s.writer.canReserve then none else some .resultRoom

/-- Check 6: the hold of a cue whose condition is not met (R148). -/
def State.holdOf (s : State) (c : Cue) : Option HoldReason :=
  match c with
  | .target _ => if s.delivery.targets.length < Config.targetRoom then none else some .targetRoom
  | .note _ | .recall => s.roomHold
  | .openTake _ => if s.matcher.take = .closing then some .takeClosing else s.roomHold
  | .format _ | .orient _ | .probes _ => if s.matcher.take = .closed then none else some .takeActive
  | _ => none

/-- Check 5 ended and check 6 made, for a decoded cue. -/
def State.judgeCue (s : State) (c : Cue) : Verdict :=
  match s.stateFault c with
  | some f => .fault f
  | none =>
    match s.holdOf c with
    | some r => .hold c r
    | none => .ready c

/-- Checks 4, 5 and 6, for a cue of known length. -/
def State.judgeBytes (s : State) (n : CueName) (length : Nat) : Verdict :=
  if s.reader.buffer.length < length then .stall
  else
    match cueFields n (s.reader.buffer.take length) s.regs.bases.cueSize s.settings.format.height with
    | .bad f => .fault f
    | .good c => s.judgeCue c

/-- Check 3 with a known length, and the checks after it. -/
def State.judgeLength (s : State) (n : CueName) (length : Nat) : Verdict :=
  if n.fits s.reader.cursor length s.regs.bases.cueSize then s.judgeBytes n length else .fault .windowEnd

/-- Check 3 for PROBES: its least length, then its count byte, then its full length (R140, log 16). -/
def State.judgeProbes (s : State) : Verdict :=
  if !CueName.fits .probes s.reader.cursor 4 s.regs.bases.cueSize then .fault .windowEnd
  else if s.reader.buffer.length < 2 then .stall
  else if 8 < (byteAt s.reader.buffer 1).toNat then .fault .badValue
  else s.judgeLength .probes (CueName.length .probes s.reader.buffer)

/-- Checks 2 to 6 for a named cue. -/
def State.judgeNamed (s : State) (n : CueName) : Verdict :=
  match prefixFault s.reader.eyePrefix n with
  | some f => .fault f
  | none => if n = .probes then s.judgeProbes else s.judgeLength n n.baseLength

/-- The checks of R142 on the cue at the cursor, in their order. -/
def State.verdict (s : State) : Verdict :=
  match s.reader.buffer with
  | [] => .needByte
  | code :: _ =>
    match cueName code with
    | none => .fault .unknownCue
    | some n => s.judgeNamed n

/-! ### Fetching (R137) -/

/-- The reader states in which cue fetches are issued. -/
def ReaderState.fetches : ReaderState → Bool
  | .running | .stalled | .held _ | .waiting _ _ _ => true
  | .off | .parked | .faulted _ _ => false

/-- The conditions of R137 hold. -/
def State.canFetch (s : State) : Bool :=
  decide (s.reader.buffer.length ≤ Config.fetchLimit) && s.reader.fetch.isNone &&
    decide (s.reader.fetchPointer < s.regs.bases.cueSize) && s.reader.state.fetches

/-- Issue the fetch of the word at the fetch pointer: a host read at the window base plus it (R135, R137). -/
def CueReader.issue (r : CueReader) (base : BitVec 64) (now : Stamp) (reLook : Bool) : CueReader :=
  { r with
    fetch := some { sequence := r.sequence, offset := r.fetchPointer,
                    address := base + BitVec.ofNat 64 r.fetchPointer, issued := now, reLook := reLook } }

/-- Issue a fetch where R137 allows one. -/
def State.tryFetch (s : State) : State :=
  if s.canFetch then s.onReader fun r => r.issue s.regs.bases.cueBase s.now false else s

/-! ### Faults (R156, R157) -/

/-- A cue fault: FAULTED with its code, the cause, and the record placed or its mark set. -/
def State.faultReader (s : State) (code : FaultCode) : State :=
  let room := s.writer.canReserve
  let s' := (s.onReader fun r => { r with state := .faulted code (!room) }).setCause .cueFault
  if room then s'.place (.cueFault code s.reader.cursor) else s'

/-- FAULT_RECORD_PLACED (R157): the waiting CUE FAULT record is placed once a place can be reserved. -/
def execFaultRecordPlaced (s : State) : Outcome :=
  .next (match s.reader.state with
    | .faulted code true =>
      if s.writer.canReserve then
        (s.onReader fun r => { r with state := .faulted code false }).place (.cueFault code s.reader.cursor)
      else s
    | _ => s)

/-! ### Decoding on -/

/-- Set the reader's state. -/
def State.setReader (s : State) (x : ReaderState) : State := s.onReader fun r => { r with state := x }

/-- The reader, RUNNING or STALLED, judges the cue at the cursor: it stalls, faults, holds, or stays RUNNING with a
cue that its own command then executes (R142, log 9). -/
def State.settle (s : State) : State :=
  match s.reader.state with
  | .running | .stalled =>
    match s.verdict with
    | .stall => s.setReader .stalled
    | .fault f => s.faultReader f
    | .hold _ r => s.setReader (.held r)
    | .needByte | .ready _ => s.setReader .running
  | _ => s

/-- A fetch where R137 allows one, and then the decode that goes on (R138, R143). The rules order the two nowhere: the
fetch first is the model's choice, log 37. -/
def State.resume (s : State) : State := s.tryFetch.settle

/-- The end of an execution that advances the cursor by the cue's length (R136, R143). -/
def CueReader.advance (r : CueReader) (length : Nat) : CueReader :=
  { r with
    state := .running
    buffer := r.buffer.drop length
    cursor := r.cursor + length
    executed := Counter.inc r.executed }

/-- The end of an execution that moves the cursor to an offset and flushes the buffer (R139, R143). -/
def CueReader.moveTo (r : CueReader) (cursor : Nat) : CueReader :=
  { r.flushAt cursor with state := .running, executed := Counter.inc r.executed }

/-! ### The return of a fetch (R138, R154) -/

/-- The bytes of a current word placed in the buffer. -/
def CueReader.placeWord (r : CueReader) (word : BitVec 64) : CueReader :=
  { r with
    buffer := r.buffer ++ (leBytes 8 word.toNat).drop r.skip
    skip := 0
    fetchPointer := r.fetchPointer + 8 }

/-- What waited on the bytes goes on: a re-look that finds another byte than PARK resumes, a decode continues. -/
def State.afterWord (s : State) (f : Fetch) : State :=
  match s.reader.state with
  | .parked =>
    if f.reLook && byteAt s.reader.buffer 0 != 0#8 then (s.setReader .running).resume else s
  | _ => s.resume

/-- A fetch in flight returns its word. -/
def State.fetchReturned (s : State) (f : Fetch) (word : BitVec 64) : State :=
  let s' := s.onReader fun r => { r with fetch := none }
  if s.reader.state = .off then s'
  else if f.sequence = s.reader.sequence then (s'.onReader fun r => r.placeWord word).afterWord f
  else s'.tryFetch

/-- CUE_FETCH_RETURN (R138); in OFF the word is discarded (R158). -/
def execCueFetchReturn (word : BitVec 64) (s : State) : Outcome :=
  .next (match s.reader.fetch with
    | none => s
    | some f => s.fetchReturned f word)

/-! ### Pace ticks (R151, R154) -/

/-- A re-look: the buffer flushed at the cursor, the fetch of the word holding it issued, counted (R154). -/
def CueReader.lookAgain (r : CueReader) (base : BitVec 64) (now : Stamp) : CueReader :=
  { (r.flushAt r.cursor).issue base now true with reLooks := Counter.inc r.reLooks }

/-- A pace tick at the reader: a re-look in PARKED with no fetch in flight, one tick counted for TICKS. -/
def State.readerTick (s : State) : State :=
  match s.reader.state with
  | .parked => if s.reader.fetch.isNone then s.onReader fun r => r.lookAgain s.regs.bases.cueBase s.now else s
  | _ => s.onReader CueReader.reportTick

/-! ### The end of a wait (R151) -/

/-- WAIT_END (R151): the report has met the condition, and the reader resumes RUNNING (log 7). -/
def execWaitEnd (s : State) : Outcome :=
  .next (match s.reader.state with
    | .waiting _ _ true => (s.setReader .running).resume
    | _ => s)

end Sys2Proof.Machine
end

