-- ==== Sys2Proof/Machine/Cues.lean ====
section
/-! DEFINITION. The cues (09, R163 to R186): the effect of each, its command, and HOLD_RELEASE. A cue command acts
where the reader is RUNNING with that cue at its cursor and every check of R142 passed; a cue whose condition is
not met is held (R148, log 9). -/

namespace Sys2Proof.Machine

/-! ### The end of an execution -/

/-- Advance past a cue of the name given, and decode on. -/
def State.advancePast (s : State) (n : CueName) : State :=
  (s.onReader fun r => r.advance (n.length r.buffer)).resume

/-- Move the cursor to an offset, and decode on. -/
def State.jumpTo (s : State) (cursor : Nat) : State := (s.onReader fun r => r.moveTo cursor).resume

/-! ### Flow (R153, R163 to R167) -/

/-- PARK (R153): PARKED, not removed and not counted, the cause set. -/
def State.effectPark (s : State) : State := (s.setReader .parked).setCause .parked

/-- PAD (R163). -/
def State.effectPad (s : State) : State := s.advancePast .pad

/-- JUMP (R144, R164). -/
def State.effectJump (s : State) (target : Nat) : State := s.jumpTo target

/-- CALL (R145, R165): the offset just past it is pushed. -/
def State.effectCall (s : State) (target : Nat) : State :=
  (s.onReader fun r => { r with stack := (r.cursor + CueName.baseLength .call) :: r.stack }).jumpTo target

/-- RETURN (R146, R166): the top address is popped into the cursor. -/
def State.effectReturn (s : State) : State :=
  match s.reader.stack with
  | [] => s
  | a :: rest => (s.onReader fun r => { r with stack := rest }).jumpTo a

/-- EYE (R147, R167). -/
def State.effectEye (s : State) (c : EyeChoice) : State :=
  (s.onReader fun r => { r with eyePrefix := some c }).advancePast .eye

/-! ### Format class (R168 to R173) -/

/-- The probe rows that a new height leaves in the list (R93). -/
def ProbeSetting.below (p : ProbeSetting) (height : Nat) : ProbeSetting :=
  { p with rows := p.rows.filter fun r => decide (r < height) }

/-- FORMAT (R170): flush, setting with the probe rows pruned, tracker, cursor. -/
def State.effectFormat (s : State) (f : FormatSetting) : State :=
  (((s.flush true).onSettings fun x => { x with format := f, probes := x.probes.below f.height }).onAlign fun a =>
    a.restart s.settings.track).advancePast .format

/-- The eye a prefix names covers this eye; no prefix is BOTH (R147). -/
def covers (p : Option EyeChoice) (e : Eye) : Bool :=
  match p with
  | none => true
  | some .both => true
  | some (.only x) => x == e

/-- ORIENT for the prefix eye or both. -/
def Settings.orientBy (x : Settings) (p : Option EyeChoice) (o : Orientation) : Settings :=
  { x with
    orientLeft := if covers p .left then o else x.orientLeft
    orientRight := if covers p .right then o else x.orientRight }

/-- Clear the eye prefix flag. -/
def State.clearPrefix (s : State) : State := s.onReader fun r => { r with eyePrefix := none }

/-- ORIENT (R171): flush, setting with the prefix cleared, tracker, cursor. -/
def State.effectOrient (s : State) (o : Orientation) : State :=
  ((((s.flush true).onSettings fun x => x.orientBy s.reader.eyePrefix o).clearPrefix).onAlign fun a =>
    a.restart s.settings.track).advancePast .orient

/-- PROBES (R173): flush, setting, tracker, cursor. -/
def State.effectProbes (s : State) (p : ProbeSetting) : State :=
  (((s.flush true).onSettings fun x => { x with probes := p }).onAlign fun a =>
    a.reclamp s.settings.track p.range).advancePast .probes

/-! ### Other settings (R174 to R178) -/

/-- LINK for the prefix eye or both, in the setting. -/
def Settings.linkBy (x : Settings) (p : Option EyeChoice) (enable : Bool) : Settings :=
  { x with
    linkLeft := if covers p .left then enable else x.linkLeft
    linkRight := if covers p .right then enable else x.linkRight }

/-- One receiver told of a LINK cue. -/
def State.tellLink (s : State) (p : Option EyeChoice) (enable : Bool) (e : Eye) : State :=
  if covers p e then (if enable then s.linkOn e else s.linkOff e) else s

/-- LINK (R174): setting, prefix cleared, each named receiver told, LEFT first (log 20). -/
def State.effectLink (s : State) (enable : Bool) : State :=
  let p := s.reader.eyePrefix
  ((((s.onSettings fun x => x.linkBy p enable).clearPrefix).tellLink p enable .left).tellLink p enable
    .right).advancePast .link

/-- MATCH (R51, R70, R175): the setting, the waiting heads that expire under it, a disposal pass. -/
def State.effectMatch (s : State) (m : MatchSetting) : State :=
  ((s.onSettings fun x => { x with matching := m }).expireReached.pass).advancePast .matching

/-- TRACK (R102, R176). -/
def State.effectTrack (s : State) (t : TrackSetting) : State :=
  ((s.onSettings fun x => { x with track := t }).onAlign fun a =>
    a.onTrack s.settings.track.mode t s.settings.probes.range).advancePast .track

/-- SAMPLES (R177). -/
def State.effectSamples (s : State) (x : SampleSetting) : State :=
  (s.onSettings fun y => { y with samples := x }).advancePast .samples

/-- The FREE interval begun by a FREE tick at this same stamp is timed with the new free period, as where the cue is
taken before that tick. Any other running timer keeps its due time, that of the first FREE tick included, which the tick
that ended HOLDOVER set (R46; log 34). -/
def PaceGenerator.retime (g : PaceGenerator) (free : Nat) : PaceGenerator :=
  if g.state = .free ∧ g.droppedRun = none ∧ g.tickAt = some g.stamp then
    { g with timer := g.timer.map fun t => { t with wait := free } }
  else g

/-- PACE (R46, R178). -/
def State.effectPace (s : State) (p : PaceSetting) : State :=
  ((s.onSettings fun x => { x with pace := p }).onPace fun g => g.retime p.freePeriod).advancePast .pace

/-! ### Targets (R179 to R181) -/

/-- TARGET (R111, R180): the target joins the tail of the list. -/
def State.effectTarget (s : State) (t : Target) : State :=
  (s.onDelivery fun d => { d with targets := d.targets ++ [t] }).advancePast .target

/-- The tag of a target, or 0 where there is none (R112). -/
def tagOf (t : Option Target) : BitVec 16 := (t.map (·.tag)).getD 0#16

/-- RECALL (R112, R181): every target leaves, and the TARGETS RECALLED record is placed. -/
def State.effectRecall (s : State) : State :=
  let ts := s.delivery.targets
  ((s.onDelivery fun d => { d with targets := [] }).place
    (.targetsRecalled ts.length (tagOf ts.head?) (tagOf ts.getLast?))).advancePast .recall

/-! ### Takes, notes and waits (R182 to R185) -/

/-- The take opened with a number at a stamp (R72). -/
def PairMatcher.openTake (m : PairMatcher) (number : BitVec 32) (now : Stamp) : PairMatcher :=
  { m with take := .opened, takeNumber := number, openStamp := now, closeStamp := none, takeRecords := 0#32 }

/-- OPEN TAKE (R72, R182). -/
def State.effectOpenTake (s : State) (number : BitVec 32) : State :=
  ((s.onMatcher fun m => m.openTake number s.now).place (.takeOpened number s.now)).advancePast .openTake

/-- CLOSE TAKE (R73, R183): CLOSING with its close stamp, and the close check, before the next cue is decoded. -/
def State.effectCloseTake (s : State) : State :=
  ((s.onMatcher fun m => { m with take := .closing, closeStamp := some s.now }).closeCheck).advancePast .closeTake

/-- NOTE (R184). -/
def State.effectNote (s : State) (value : BitVec 32) : State := (s.place (.note value)).advancePast .note

/-- The condition of a WAIT is met at its execution (R151). -/
def State.metAtOnce (s : State) (c : WaitCondition) : Bool :=
  match c with
  | .lock => s.left.sync == .frameLock && s.right.sync == .frameLock
  | .takeClosed => s.matcher.take == .closed
  | .pairs _ | .ticks _ => false

/-- The reader after the execution of a WAIT: past it, RUNNING where the condition is met and otherwise WAITING. -/
def CueReader.beginWait (r : CueReader) (c : WaitCondition) (met : Bool) : CueReader :=
  let r' := r.advance (CueName.baseLength .wait)
  if met then r' else { r' with state := .waiting c 0 false }

/-- WAIT (R151, R185). -/
def State.effectWait (s : State) (c : WaitCondition) : State :=
  (s.onReader fun r => r.beginWait c (s.metAtOnce c)).resume

/-! ### The commands -/

/-- The execution of a cue that has passed every check (R143). -/
def State.perform (s : State) (c : Cue) : State :=
  match c with
  | .park => s.effectPark
  | .pad => s.effectPad
  | .jump t => s.effectJump t
  | .call t => s.effectCall t
  | .ret => s.effectReturn
  | .eye x => s.effectEye x
  | .format f => s.effectFormat f
  | .orient o => s.effectOrient o
  | .probes p => s.effectProbes p
  | .link b => s.effectLink b
  | .matching m => s.effectMatch m
  | .track t => s.effectTrack t
  | .samples x => s.effectSamples x
  | .pace p => s.effectPace p
  | .target t => s.effectTarget t
  | .recall => s.effectRecall
  | .openTake n => s.effectOpenTake n
  | .closeTake => s.effectCloseTake
  | .note v => s.effectNote v
  | .wait w => s.effectWait w

/-- The cue enters HELD with its reason; fetching goes on (R137, R148). -/
def State.holdCue (s : State) (r : HoldReason) : State := (s.setReader (.held r)).tryFetch

/-- A cue command: the reader is RUNNING and the cue of this name stands at its cursor. -/
def State.cueCommand (s : State) (n : CueName) : State :=
  match s.reader.state, s.verdict with
  | .running, .ready c => if c.name = n then s.perform c else s
  | .running, .hold c r => if c.name = n then s.holdCue r else s
  | _, _ => s

/-- PARK (R153). -/
def execPark (s : State) : Outcome := .next (s.cueCommand .park)
/-- PAD (R163). -/
def execPad (s : State) : Outcome := .next (s.cueCommand .pad)
/-- JUMP (R164). -/
def execJump (s : State) : Outcome := .next (s.cueCommand .jump)
/-- CALL (R165). -/
def execCall (s : State) : Outcome := .next (s.cueCommand .call)
/-- RETURN (R166). -/
def execReturnCue (s : State) : Outcome := .next (s.cueCommand .ret)
/-- EYE (R167). -/
def execEyeCue (s : State) : Outcome := .next (s.cueCommand .eye)
/-- FORMAT (R168 to R170). -/
def execFormat (s : State) : Outcome := .next (s.cueCommand .format)
/-- ORIENT (R168, R171). -/
def execOrient (s : State) : Outcome := .next (s.cueCommand .orient)
/-- PROBES (R168, R172, R173). -/
def execProbes (s : State) : Outcome := .next (s.cueCommand .probes)
/-- LINK (R174). -/
def execLink (s : State) : Outcome := .next (s.cueCommand .link)
/-- MATCH (R175). -/
def execMatchCue (s : State) : Outcome := .next (s.cueCommand .matching)
/-- TRACK (R176). -/
def execTrack (s : State) : Outcome := .next (s.cueCommand .track)
/-- SAMPLES (R177). -/
def execSamples (s : State) : Outcome := .next (s.cueCommand .samples)
/-- PACE (R178). -/
def execPace (s : State) : Outcome := .next (s.cueCommand .pace)
/-- TARGET (R179, R180). -/
def execTarget (s : State) : Outcome := .next (s.cueCommand .target)
/-- RECALL (R181). -/
def execRecall (s : State) : Outcome := .next (s.cueCommand .recall)
/-- OPEN_TAKE (R182). -/
def execOpenTake (s : State) : Outcome := .next (s.cueCommand .openTake)
/-- CLOSE_TAKE (R183). -/
def execCloseTake (s : State) : Outcome := .next (s.cueCommand .closeTake)
/-- NOTE (R184). -/
def execNote (s : State) : Outcome := .next (s.cueCommand .note)
/-- WAIT (R185). -/
def execWaitCue (s : State) : Outcome := .next (s.cueCommand .wait)

/-- The held cue judged again: it executes, or its hold takes the reason now standing (R148, R149). -/
def State.judgeHeld (s : State) : State :=
  match s.verdict with
  | .ready c => s.perform c
  | .hold _ r => s.setReader (.held r)
  | _ => s

/-- HOLD_RELEASE (R149). -/
def execHoldRelease (s : State) : Outcome :=
  .next (match s.reader.state with
    | .held _ => s.judgeHeld
    | _ => s)

end Sys2Proof.Machine
end

