-- ==== Sys2Proof/Machine/Pace.lean ====
section
/-! DEFINITION. The Pace Generator (03, R37 to R49): the pace tick and its observers (R47), REFERENCE_PULSE,
LOSS_DEADLINE_EXPIRY, TICK_TIMER_EXPIRY, HOLDOVER_LIMIT_REACHED, and the Stamp Counter. -/

namespace Sys2Proof.Machine

/-! ### The pace tick (R47) -/

/-- Every observer of a tick (R47). -/
def allObservers : List TickObserver :=
  [.linkReceiver .left, .linkReceiver .right, .samplePort .leftLens, .samplePort .rightLens, .samplePort .rig,
    .pairMatcher, .cueReader, .resultWriter]

/-- One block takes a tick. The writer presents its consumed read ahead of its status write (log 4). -/
def State.observe (s : State) (o : TickObserver) : State :=
  match o with
  | .linkReceiver e => s.linkTick e
  | .samplePort p => s.ageSamples p
  | .pairMatcher => s.matcherTick
  | .cueReader => s.readerTick
  | .resultWriter => s.writerTick.statusTick

/-- One block that the command's order leaves out takes a tick: a receiver and the matcher may owe it (log 5). -/
def State.observeLater (s : State) (o : TickObserver) : State :=
  match o with
  | .linkReceiver e => s.linkTickLater e
  | .pairMatcher => s.matcherTickLater
  | o => s.observe o

/-- The blocks that an order leaves out. -/
def leftOut (order : List TickObserver) : List TickObserver := allObservers.filter fun o => !order.contains o

/-- A pace tick, which every observer takes: those named in their order, once each, and then those left out in a fixed
one (R47; log 4). -/
def State.tick (s : State) (order : List TickObserver) : State :=
  (leftOut order).foldl State.observeLater (order.eraseDups.foldl State.observe s)

/-! ### The lock run (R38, R39) -/

/-- A consistent interval (R38). -/
def consistent (i : Nat) : Bool := decide (Config.leastInterval ≤ i) && decide (i ≤ Config.greatestInterval)

/-- An interval within ±1% of a base (R39). -/
def nearBase (i base : Nat) : Bool := decide (((i : Int) - base).natAbs * 100 ≤ base)

/-- The lock run after a pulse that has an interval: run count and base interval (R39). -/
def nextRun (count : Nat) (base : Option Nat) (i : Nat) : Nat × Option Nat :=
  if !consistent i then (0, none)
  else if count = 0 then (1, some i)
  else
    match base with
    | some b => if nearBase i b then (count + 1, base) else (1, some i)
    | none => (1, some i)

/-! ### HOLDOVER and FREE (R42 to R44) -/

/-- Three halves of a period, any fraction discarded. -/
def threeHalves (p : Nat) : Nat := 3 * p / 2

/-- Entry to FREE: the run count 0 (R39), and the first tick F after the tick at `base` (R44). The run dropped here
still counts for a lock pulse that meets the tick (R40; log 34). -/
def PaceGenerator.enterFree (g : PaceGenerator) (base : Stamp) (free : Nat) : PaceGenerator :=
  { g with state := .free, runCount := 0, runBase := none, droppedRun := some (g.runCount, g.runBase),
           timer := some { base := base, wait := free } }

/-- A holdover tick at `due`: counted, with the next one P later, or FREE where the count reaches the limit
(R43). -/
def PaceGenerator.holdoverTick (g : PaceGenerator) (p : PaceSetting) (due : Stamp) (next : Timer) :
    PaceGenerator :=
  let g' := { g with holdoverCount := inc16 g.holdoverCount, tickAt := some g.stamp }
  if p.holdoverLimit ≤ g'.holdoverCount then g'.enterFree due p.freePeriod else { g' with timer := some next }

/-- The holdover count reaches the limit at the next holdover tick. -/
def State.limitNext (s : State) : Bool :=
  decide (s.settings.pace.holdoverLimit ≤ inc16 s.pace.holdoverCount)

/-- The stamp `n` microseconds after a stamp. -/
def later (t : Stamp) (n : Nat) : Stamp := t + BitVec.ofNat 48 n

/-- HOLDOVER with its counts at 0, before any tick of it (R42 steps 1 and 2). -/
def PaceGenerator.beginHoldover (g : PaceGenerator) : PaceGenerator :=
  { g with state := .holdover, holdoverCount := 0, runCount := 0, runBase := none, deadline := none,
           droppedRun := none }

/-- Entry to HOLDOVER on the phase of the last good pulse at `t`: where T + P has passed, one tick at once and the
next at T + 2P, and otherwise the first at T + P (R42). -/
def State.enterHoldover (s : State) (t : Stamp) (order : List TickObserver) : State :=
  let p := s.pace.measured.getD 0
  let s' := s.onPace PaceGenerator.beginHoldover
  if p < elapsed s.now t then
    let s'' := s'.onPace fun g =>
      g.holdoverTick s.settings.pace s.now { base := t, wait := 2 * p }
    ((if s'.limitNext then s''.setCause .pace else s'').tick order).setCause .pace
  else (s'.onPace fun g => { g with timer := some { base := t, wait := p } }).setCause .pace

/-! ### The pulse (R38 to R41) -/

/-- The pulse that completes lock: REFERENCED, a tick, the loss deadline, PACE (R40). -/
def State.completeLock (s : State) (i : Nat) (order : List TickObserver) : State :=
  ((s.onPace fun g =>
    { g with state := .referenced, measured := some i, holdoverCount := 0, timer := none, droppedRun := none,
             deadline := some { base := s.now, wait := threeHalves i } }).tick order).setCause .pace

/-- The lock run after a pulse with an interval (R39). Where the pulse is taken at the stamp of the tick that ended
HOLDOVER, and completes the run that stood before that tick, it completes lock from FREE (R40; log 34). -/
def PaceGenerator.runAfter (g : PaceGenerator) (i : Nat) : Nat × Option Nat :=
  match g.droppedRun with
  | some r =>
    if g.tickAt = some g.stamp ∧ 4 ≤ (nextRun r.1 r.2 i).1 then nextRun r.1 r.2 i
    else nextRun g.runCount g.runBase i
  | none => nextRun g.runCount g.runBase i

/-- A pulse in HOLDOVER or FREE (R39, R40). -/
def State.seekLock (s : State) (i : Nat) (order : List TickObserver) : State :=
  let run := s.pace.runAfter i
  let s' := s.onPace fun g => { g with runCount := run.1, runBase := run.2 }
  if 4 ≤ run.1 then s'.completeLock i order else s'

/-- A consistent pulse in REFERENCED (R41). -/
def State.followPulse (s : State) (i : Nat) (order : List TickObserver) : State :=
  (s.onPace fun g =>
    { g with measured := some i, deadline := some { base := s.now, wait := threeHalves i } }).tick order

/-- A pulse that has an interval, in the current pace state; `t` is the pulse before it. -/
def State.judgedPulse (s : State) (t : Stamp) (i : Nat) (order : List TickObserver) : State :=
  match s.pace.state with
  | .referenced => if consistent i then s.followPulse i order else s.enterHoldover t order
  | .free | .holdover => s.seekLock i order

/-- An inconsistent pulse counted (R38). -/
def PaceGenerator.countPulse (g : PaceGenerator) (i : Nat) : PaceGenerator :=
  if consistent i then g else { g with inconsistent := Counter.inc g.inconsistent }

/-- A pulse taken: judged where it has an interval, and its stamp noted (R38). -/
def State.takePulse (s : State) (order : List TickObserver) : State :=
  let s' := s.onPace fun g => { g with previousPulse := some s.now }
  match s.pace.previousPulse with
  | none => s'
  | some t =>
    let i := elapsed s.now t
    (s'.onPace fun g => g.countPulse i).judgedPulse t i order

/-- REFERENCE_PULSE (R38 to R42); with the strap at ABSENT no edge is a pulse (R45). -/
def execReferencePulse (order : List TickObserver) (s : State) : Outcome :=
  .next (if s.straps.referencePresent then s.takePulse order else s)

/-! ### Expiries -/

/-- The loss deadline has come in REFERENCED. -/
def PaceGenerator.lost (g : PaceGenerator) : Bool :=
  g.state == .referenced && (match g.deadline with
    | some d => d.due g.stamp
    | none => false)

/-- LOSS_DEADLINE_EXPIRY (R42): HOLDOVER on the phase of the last good pulse. -/
def execLossDeadlineExpiry (order : List TickObserver) (s : State) : Outcome :=
  .next (if s.pace.lost then s.enterHoldover (s.pace.previousPulse.getD 0#48) order else s)

/-- The tick timer, where it has come due; there is none in REFERENCED. -/
def PaceGenerator.dueTimer (g : PaceGenerator) : Option Timer := g.timer.filter fun t => t.due g.stamp

/-- The generator's part of a timer tick at its nominal due time (R43, R44). -/
def PaceGenerator.timerTick (g : PaceGenerator) (p : PaceSetting) (t : Timer) : PaceGenerator :=
  let due := later t.base t.wait
  match g.state with
  | .holdover => g.holdoverTick p due { base := due, wait := g.measured.getD 0 }
  | .free => { g with timer := some { base := due, wait := p.freePeriod }, tickAt := some g.stamp, droppedRun := none }
  | .referenced => g

/-- The timer tick: the generator's part, the PACE cause where HOLDOVER ends, and the tick (R43, R44, R47). -/
def State.timerTick (s : State) (t : Timer) (order : List TickObserver) : State :=
  let s' := s.onPace fun g => g.timerTick s.settings.pace t
  (if s.pace.state = .holdover ∧ s.limitNext then s'.setCause .pace else s').tick order

/-- TICK_TIMER_EXPIRY (R43, R44). -/
def execTickTimerExpiry (order : List TickObserver) (s : State) : Outcome :=
  .next (match s.pace.dueTimer with
    | none => s
    | some t => s.timerTick t order)

/-- HOLDOVER_LIMIT_REACHED (R43): the holdover tick that reaches the limit; log 8. -/
def execHoldoverLimitReached (order : List TickObserver) (s : State) : Outcome :=
  .next (match s.pace.dueTimer with
    | none => s
    | some t => if s.pace.state = .holdover ∧ s.limitNext then s.timerTick t order else s)

/-! ### The Stamp Counter (R37) -/

/-- One microsecond: what the part does when no event is due (log 3). -/
def State.microsecond (s : State) : State := s.onPace fun g => { g with stamp := g.stamp + 1#48 }

end Sys2Proof.Machine
end

