-- ==== Sys2Proof/Machine/Registers.lean ====
section
/-! DEFINITION. The Register Window, the resets and the Bus Port's failures (10, R187 to R199): POWER_ON_RESET,
PCIE_LINK_RESET, START, STOP, RESET, CAUSE_WRITE, ENABLE_WRITE, REGISTER_WRITE, HEADER_READ_RETURN, BUS_ERROR,
READ_TIMEOUT and CONFIGURATION_ACCESS. -/

namespace Sys2Proof.Machine

/-! ### Resets (R199) -/

/-- The straps sampled from the pins (R188; 10, Electrical summary). -/
def sampleStraps (p : StrapPins) : Straps :=
  { rigMode :=
      match p.rigFirst, p.rigSecond with
      | false, false => .parallel
      | false, true => .mirrorLeft
      | true, false => .mirrorRight
      | true, true => .parallel
    slotsFull := p.slots
    referencePresent := p.reference }

/-- The writes in flight, of which a reset or a bus error may leave any part landed. -/
def State.writesInFlight (s : State) : List HostWrite :=
  s.copyWrites ++ s.writer.recordWrite.toList ++ s.writer.statusWrite.toList

/-- The Bus Port's list once every write in flight is abandoned (log 19). -/
def State.abandoned (s : State) : List BusItem :=
  if s.writesInFlight.isEmpty then s.carried else s.carried ++ [.abandoned s.writesInFlight]

/-- A receiver at its reset values (R20), on a link whose bytes go on being counted (log 13). -/
def Receiver.restarted (r : Receiver) : Receiver :=
  { Receiver.reset with nextPosition := r.nextPosition, scanFrom := r.scanFrom }

/-- The part after a reset with straps, over the slot memory it keeps; the latched bases hold until the next valid
START (R192). -/
def State.restart (s : State) (p : Straps) : State :=
  { State.powerOn p with
    pending := s.pending
    regs := { RegisterWindow.reset with bases := s.regs.bases }
    carried := s.abandoned
    left := s.left.restarted
    right := s.right.restarted
    store := FrameStore.reset p s.store.mem }

/-- What a soft reset keeps of the register window: the exchange registers and the PCIe configuration; the last
command outcome is ACCEPTED. -/
def RegisterWindow.softReset (r : RegisterWindow) : RegisterWindow :=
  { RegisterWindow.reset with
    outcome := .accepted
    exchangeLo := r.exchangeLo
    exchangeHi := r.exchangeHi
    bases := r.bases
    msiEnable := r.msiEnable
    busMaster := r.busMaster }

/-- A soft reset: straps, exchange registers, configuration and slot memory kept. -/
def State.softReset (s : State) : State :=
  { s.restart s.straps with regs := s.regs.softReset }

/-- POWER_ON_RESET (R199): straps sampled, slot memory zero; the Bus Port's list begins anew (log 28). -/
def execPowerOnReset (pins : StrapPins) (s : State) : Outcome :=
  .next { State.powerOn (sampleStraps pins) with pending := s.pending }

/-- PCIE_LINK_RESET (R199): straps sampled, slot memory kept. -/
def execPcieLinkReset (pins : StrapPins) (s : State) : Outcome := .next (s.restart (sampleStraps pins))

/-- RESET (R189, R199): accepted in every run state. -/
def execReset (s : State) : Outcome := .next s.softReset

/-! ### START (R189 to R191) -/

/-- HALTED with a reason, and the HALT cause. -/
def State.halt (s : State) (reason : HaltReason) : State :=
  (s.onRegs fun r => { r with run := .halted, halt := reason }).setCause .halt

/-- The exchange address: EXCHANGE_HI and EXCHANGE_LO together. -/
def RegisterWindow.exchange (r : RegisterWindow) : BitVec 64 := r.exchangeHi ++ r.exchangeLo

/-- The exchange address is neither 0 nor off a multiple of 64 (R191). -/
def exchangeValid (a : BitVec 64) : Bool := a != 0#64 && a.toNat % 64 == 0

/-- A refused command changes the outcome alone (R189). -/
def State.refuse (s : State) : State := s.onRegs fun r => { r with outcome := .refused }

/-- An accepted START: STARTING, and the header read where the address is valid (R190, R191). -/
def State.acceptStart (s : State) : State :=
  let s' := s.onRegs fun r =>
    { r with outcome := .accepted, run := .starting, startedHalted := r.run == .halted, drainedStarting := false }
  if exchangeValid s.regs.exchange then s'.onRegs fun r =>
    { r with headerRead := some { address := s.regs.exchange, issued := s.now } }
  else s'.halt .headerInvalid

/-- A START command. -/
def State.commandStart (s : State) : State :=
  match s.regs.run with
  | .idle | .halted => s.acceptStart
  | .starting | .running | .draining => s.refuse

/-- START (R189 to R191). -/
def execStart (s : State) : Outcome := .next s.commandStart

/-! ### STOP (R193) -/

/-- The blocks' STOP actions at the start of DRAINING: the matcher STOPPED (R50), the receivers OFF (R10), partial
messages dropped (R82), the measurement abandoned (R104), the reader OFF (R158). The order among the blocks is the
model's: log 20. -/
def State.stopActions (s : State) : State :=
  let s₁ := s.onMatcher fun m => { m with state := .stopped, tickOwed := false }
  let s₂ := ((s₁.linkOff .left).linkOff .right).dropPartials
  (s₂.onAlign fun a => { a with busy := none, looking := false }).setReader .off

/-- An accepted STOP. -/
def State.acceptStop (s : State) : State :=
  (s.onRegs fun r =>
    { r with outcome := .accepted, run := .draining, drainedStarting := r.run == .starting }).stopActions

/-- A STOP command. -/
def State.commandStop (s : State) : State :=
  match s.regs.run with
  | .starting | .running => s.acceptStop
  | .idle | .draining | .halted => s.refuse

/-- STOP (R189, R193). -/
def execStop (s : State) : Outcome := .next s.commandStop

/-! ### Register writes (R187, R189, R197, R198) -/

/-- A write to CAUSE clears each bit written as 1 (R197). -/
def State.writeCause (s : State) (v : BitVec 32) : State :=
  s.setIrq (s.regs.cause &&& ~~~(v.setWidth 9)) s.regs.enable

/-- A write to ENABLE replaces bits 0 to 8 (R187). -/
def State.writeEnable (s : State) (v : BitVec 32) : State := s.setIrq s.regs.cause (v.setWidth 9)

/-- CAUSE_WRITE (R197). -/
def execCauseWrite (v : BitVec 32) (s : State) : Outcome := .next (s.writeCause v)

/-- ENABLE_WRITE (R187, R198). -/
def execEnableWrite (v : BitVec 32) (s : State) : Outcome := .next (s.writeEnable v)

/-- A write to CONTROL, judged by its low byte (R189). -/
def State.writeControl (s : State) (v : BitVec 32) : State :=
  match (v.setWidth 8).toNat with
  | 0x01 => s.commandStart
  | 0x02 => s.commandStop
  | 0x0F => s.softReset
  | _ => s

/-- A 32-bit write to the register at a 4-byte offset (R187). -/
def State.writeRegister (s : State) (offset : Nat) (v : BitVec 32) : State :=
  match offset with
  | 0x08 => s.writeControl v
  | 0x0C => s.writeCause v
  | 0x10 => s.writeEnable v
  | 0x18 => s.onRegs fun r => { r with exchangeLo := v }
  | 0x1C => s.onRegs fun r => { r with exchangeHi := v }
  | _ => s

/-- REGISTER_WRITE (R187): a narrow write is ignored, and so is one off a multiple of 4 (log 22). -/
def execRegisterWrite (offset : BitVec 5) (width : AccessWidth) (v : BitVec 32) (s : State) : Outcome :=
  .next (match width with
    | .word => s.writeRegister offset.toNat v
    | .byte | .half => s)

/-- CONFIGURATION_ACCESS (R199): MSI enable and bus mastering as the host leaves them (log 24). An assertion that
has passed sends no message when MSI is enabled later (R198). -/
def execConfigurationAccess (msi busMaster : Bool) (s : State) : Outcome :=
  .next (s.onRegs fun r => { r with msiEnable := msi, busMaster := busMaster })

/-! ### The header's return and the START actions (R192) -/

/-- The link of an eye is enabled by the LINK setting. -/
def Settings.linkOf (x : Settings) : Eye → Bool
  | .left => x.linkLeft
  | .right => x.linkRight

/-- A receiver's START actions (R20), after the flush: counters 0, expectation cleared, HUNT or OFF. -/
def Receiver.start (enabled : Bool) (r : Receiver) : Receiver :=
  let r' := { r with counters := LinkCounters.zero, expectation := none, tickOwed := false }
  if enabled then r'.enterHunt r.scanFrom else r'.enterOff

/-- The LINK cause of a receiver that leaves FRAME_LOCK at START (R11, R197, log 26). -/
def State.startCause (s : State) (e : Eye) : State :=
  if (s.receiver e).sync = .frameLock then s.setCause .link else s

/-- Both receivers' START actions. -/
def State.startLinks (s : State) : State :=
  let s' := (s.startCause .left).startCause .right
  (s'.onReceiver .left (Receiver.start s.settings.linkLeft)).onReceiver .right
    (Receiver.start s.settings.linkRight)

/-- The Alignment Unit's START actions: A kept, C and n cleared, counters 0, then it looks for work (R109). -/
def AlignmentUnit.start (a : AlignmentUnit) : AlignmentUnit :=
  { AlignmentUnit.reset with offset := a.offset, looking := true }

/-- Every other block's START actions: the Pace Generator's count 0 (R49), the matcher ACQUIRE (R79), the ports
(R92), the engine and the writer (R134), the reader RUNNING (R160), the flushed count 0 (R36). -/
def State.startBlocks (s : State) : State :=
  { s with
    store := { s.store with flushed := 0#32 }
    pace := { s.pace with inconsistent := 0#32 }
    matcher := { PairMatcher.reset with state := .acquire }
    leftLens := SamplePort.reset
    rightLens := SamplePort.reset
    rig := SamplePort.reset
    align := s.align.start
    delivery := DeliveryEngine.reset
    writer := { ResultWriter.reset with state := .idle }
    reader := { CueReader.reset with state := .running } }

/-- A valid header read at the exchange address of START: the bases latched, the halt reason NONE, RUNNING (R191,
R192). -/
def RegisterWindow.enterRunning (r : RegisterWindow) (h : BitVec 512) (exchange : BitVec 64) : RegisterWindow :=
  { r with run := .running, halt := .noReason, bases := headerBases h exchange, startedHalted := false }

/-- Entry to RUNNING with every block's START actions (R192): the START flush uncounted (R33), the links, the
blocks, and the first cue fetch (R137). -/
def State.enterRunning (s : State) (h : BitVec 512) (exchange : BitVec 64) : State :=
  ((((s.onRegs fun r => r.enterRunning h exchange).flush false).startLinks).startBlocks).tryFetch

/-- The header read at an exchange address judged (R192). -/
def State.judgeHeader (s : State) (h : BitVec 512) (exchange : BitVec 64) : State :=
  if headerValid h then s.enterRunning h exchange else s.halt .headerInvalid

/-- HEADER_READ_RETURN (R192); in DRAINING the header is discarded (R193). -/
def execHeaderReadReturn (h : BitVec 512) (s : State) : Outcome :=
  .next (match s.regs.headerRead with
    | none => s
    | some read =>
      let s' := s.onRegs fun r => { r with headerRead := none }
      if s.regs.run = .starting then s'.judgeHeader h read.address else s')

/-! ### Bus errors (R196) -/

/-- A read in flight, with its issue stamp. -/
def State.readIssued (s : State) (a : Access) : Option Stamp :=
  match a with
  | .headerRead => s.regs.headerRead.map (·.issued)
  | .cueFetch => s.reader.fetch.map (·.issued)
  | .consumedRead => s.writer.consumedRead.map (·.issued)
  | .targetWrite | .recordWrite | .statusWrite => none

/-- A write in flight. -/
def State.writeInFlight (s : State) (a : Access) : Bool :=
  match a with
  | .targetWrite => s.delivery.copy.isSome
  | .recordWrite => s.writer.recordWrite.isSome
  | .statusWrite => s.writer.statusWrite.isSome
  | .headerRead | .cueFetch | .consumedRead => false

/-- The run states a bus error comes in (R196). -/
def RegisterWindow.accesses (r : RegisterWindow) : Bool :=
  match r.run with
  | .starting | .running | .draining => true
  | .idle | .halted => false

/-- The engine drops its delivery and releases its reservation; the entry stays DELIVERING (R122, R125). -/
def State.dropCopy (s : State) : State :=
  (s.onDelivery fun d => { d with copy := none }).onWriter fun w => { w with reserved := 0 }

/-- The writer STOPPED, its accesses abandoned, its held records kept (R131). -/
def ResultWriter.stop (w : ResultWriter) : ResultWriter :=
  { w with state := .stopped, recordWrite := none, consumedRead := none, statusWrite := none,
           presented := [], final := .notReached }

/-- The reader OFF, its fetch abandoned, its position kept (R158). -/
def CueReader.stop (r : CueReader) : CueReader := { r with state := .off, fetch := none }

/-- A bus error (R196): every access abandoned, the three blocks stopped, partial messages dropped (R82), HALTED
with BUS_ERROR and the HALT cause. -/
def State.busError (s : State) : State :=
  let s' := ({ s with carried := s.abandoned } : State).dropCopy.dropPartials
  (((s'.onWriter ResultWriter.stop).onReader CueReader.stop).onRegs fun r =>
    { r with headerRead := none }).halt .busError

/-- The access has its turn among its block's own accesses (R195); only the writer has more than one in flight. -/
def State.inTurn (s : State) (a : Access) : Bool :=
  match a with
  | .recordWrite | .statusWrite | .consumedRead => s.writer.inTurn a
  | .headerRead | .cueFetch | .targetWrite => true

/-- BUS_ERROR (R196): a read in flight returns an error completion, or a write in flight cannot be accepted with
bus mastering off; in the block's order (R195). -/
def State.canFail (s : State) (a : Access) : Bool :=
  s.regs.accesses && s.inTurn a && ((s.readIssued a).isSome || (s.writeInFlight a && !s.regs.busMaster))

/-- BUS_ERROR (R196). -/
def execBusError (a : Access) (s : State) : Outcome := .next (if s.canFail a then s.busError else s)

/-- A read in flight has no completion within 50,000 µs of its issue (R196, log 18). -/
def State.timedOut (s : State) (a : Access) : Bool :=
  s.regs.accesses && (match s.readIssued a with
    | some t => decide (Config.readLimit ≤ elapsed s.now t)
    | none => false)

/-- READ_TIMEOUT (R196): reported as a bus error. -/
def execReadTimeout (a : Access) (s : State) : Outcome := .next (if s.timedOut a then s.busError else s)

/-! ### The end of DRAINING (R131, R193, R194) -/

/-- The records still held are discarded and counted (R131). -/
def ResultWriter.discard (w : ResultWriter) : ResultWriter :=
  { w with held := [], unwritten := w.held.length, state := .idle, final := .issued }

/-- DRAINING_END_REACHED (R131): the records discarded, the final status write issued with the values as they then stand.
That commands queued between the moment the end is reached and this one are taken in between is the model's choice
(log 39). -/
def execDrainingEndReached (s : State) : Outcome :=
  .next (if s.drained then (s.onWriter ResultWriter.discard).issueStatus true else s)

/-- The values every block takes on entry to IDLE: R20, R36, R79, R92, R109 (A, C and n kept), R134, R160. The Pace
Generator and every setting stay (R49, R162). -/
def State.idleBlocks (s : State) : State :=
  { s with
    left := s.left.restarted
    right := s.right.restarted
    store := { s.store with flushed := 0#32 }
    matcher := PairMatcher.reset
    leftLens := SamplePort.reset
    rightLens := SamplePort.reset
    rig := SamplePort.reset
    align := { s.align with looking := false, valid := 0#32, invalid := 0#32, settles := 0#32 }
    delivery := DeliveryEngine.reset
    writer := ResultWriter.reset
    reader := CueReader.reset }

/-- Entry to IDLE: the flush uncounted (R33), the blocks' values, the halt reason NONE; no cause (R194). -/
def State.enterIdle (s : State) : State :=
  ((s.flush false).idleBlocks).onRegs fun r =>
    { r with run := .idle, halt := .noReason, drainedStarting := false }

/-- The final status write, where it is in flight and the Bus Port takes it (log 31). -/
def State.acceptFinal (s : State) : State :=
  match s.writer.statusWrite with
  | none => s
  | some h => if s.regs.busMaster && s.writer.inTurn .statusWrite then s.statusAccepted h else s

/-- The end of DRAINING completes: the final status write is accepted, or the STARTING drain ends; no header read is
in flight (R193, R194). -/
def State.drainComplete (s : State) : Bool :=
  s.regs.headerRead.isNone && (s.writer.final == .accepted || s.regs.drainedStarting)

/-- END_OF_DRAINING (R194). -/
def execEndOfDraining (s : State) : Outcome :=
  .next (if s.regs.run = .draining then
    let s' := if s.writer.final = .issued then s.acceptFinal else s
    if s'.drainComplete then s'.enterIdle else s
  else s)

end Sys2Proof.Machine
end

