-- ==== Sys2Proof/Machine/Schedule.lean ====
section
/-! DEFINITION. The part's own events: what happens on an empty queue (log 3). A due event of the part's own is
the next command; where none is due, one microsecond passes. Every rule whose block looks for its own condition
(R95, R114, R131, R149, R151, R157) comes about here. -/

namespace Sys2Proof.Machine

/-- The command of a cue by its name. -/
def cueInstr (n : CueName) : Instr :=
  match n with
  | .park => .park
  | .pad => .pad
  | .jump => .jump
  | .call => .call
  | .ret => .returnCue
  | .eye => .eyeCue
  | .format => .format
  | .orient => .orient
  | .probes => .probes
  | .link => .link
  | .matching => .matchCue
  | .track => .track
  | .samples => .samples
  | .pace => .pace
  | .target => .target
  | .recall => .recall
  | .openTake => .openTake
  | .closeTake => .closeTake
  | .note => .note
  | .wait => .waitCue

/-- A command that is due where a condition holds. -/
def dueIf (p : Bool) (c : Instr) : Option Instr := if p then some c else none

/-- A write in flight that cannot be accepted (R196). -/
def State.failingWrite (s : State) : Option Instr :=
  ([.targetWrite, .recordWrite, .statusWrite].find? fun a => s.writeInFlight a && s.canFail a).map Instr.busError

/-- The command that takes the matcher's owed tick: the take close where it completes it, and otherwise the expiry. -/
def State.owedMatcher (s : State) : Instr :=
  if s.matcher.take == .closing && s.takeOwedTick.matcher.take == .closed && !s.wouldExpire .left &&
      !s.wouldExpire .right then .takeCloseCompletion
  else .partnerWaitExpiry

/-- Ticks produced and not yet taken (log 5). -/
def State.owedTicks (s : State) : Option Instr :=
  (dueIf s.left.tickOwed (.silenceExpiry .left)).orElse fun _ =>
  (dueIf s.right.tickOwed (.silenceExpiry .right)).orElse fun _ =>
  dueIf (s.matcher.tickOwed && s.matcher.state != .stopped) s.owedMatcher

/-- A held cue whose condition is met, or whose reason has changed (R148, R149). -/
def State.releasable (s : State) (r : HoldReason) : Bool :=
  match s.verdict with
  | .ready _ => true
  | .hold _ r' => r' != r
  | _ => false

/-- The Cue Reader's own event: the cue at the cursor, the end of a hold or a wait, a waiting fault record. -/
def State.dueReader (s : State) : Option Instr :=
  match s.reader.state with
  | .running =>
    match s.verdict with
    | .ready c => some (cueInstr c.name)
    | .hold c _ => some (cueInstr c.name)
    | _ => none
  | .held r => dueIf (s.releasable r) .holdRelease
  | .waiting _ _ e => dueIf e .waitEnd
  | .faulted _ mark => dueIf (mark && s.writer.canReserve) .faultRecordPlaced
  | _ => none

/-- A measurement to begin, or one that has lasted its 100 µs (06, The measurement; log 18). -/
def State.dueMeasurement (s : State) : Option Instr :=
  match s.align.busy with
  | some m => dueIf (decide (Config.measurementLimit ≤ elapsed s.now m.begun)) .measurementDone
  | none => dueIf (s.canMeasure && s.matcher.oldestMeasuring.isSome) .measurementBegin

/-- A delivery to start (R114). -/
def State.dueDelivery (s : State) : Option Instr :=
  dueIf (s.canDeliver && s.matcher.oldestReady.isSome && !s.delivery.targets.isEmpty) .deliveryStart

/-- The steps of the end of DRAINING that need no reply of the host (R131, R194). -/
def State.dueDraining (s : State) : Option Instr :=
  (dueIf s.drained .drainingEndReached).orElse fun _ =>
  dueIf (s.regs.run == .draining && s.drainComplete) .endOfDraining

/-- The Pace Generator's deadline and timer (R42 to R44). -/
def State.duePace (s : State) : Option Instr :=
  (dueIf s.pace.lost (.lossDeadlineExpiry [])).orElse fun _ =>
  match s.pace.dueTimer with
  | some _ =>
    if s.pace.state = .holdover ∧ s.limitNext then some (.holdoverLimitReached []) else some (.tickTimerExpiry [])
  | none => none

/-- A message deadline that has come (R82). -/
def State.dueMessage (s : State) : Option Instr :=
  ([.leftLens, .rightLens, .rig].find? fun p => (s.port p).overdue s.now).map Instr.messageDeadlineExpiry

/-- A host read that has timed out (R196). -/
def State.dueTimeout (s : State) : Option Instr :=
  ([.headerRead, .cueFetch, .consumedRead].find? fun a => s.timedOut a).map Instr.readTimeout

/-- The part's own event that is due, if any, in the model's order among them (log 3). -/
def State.ownEvent (s : State) : Option Instr :=
  s.failingWrite.orElse fun _ => s.owedTicks.orElse fun _ => s.dueReader.orElse fun _ =>
  s.dueMeasurement.orElse fun _ => s.dueDelivery.orElse fun _ => s.dueDraining.orElse fun _ =>
  s.duePace.orElse fun _ => s.dueMessage.orElse fun _ => s.dueTimeout

/-- An empty queue: the own event that is due becomes the next command, and otherwise a microsecond passes. -/
def State.idle (s : State) : State :=
  match s.ownEvent with
  | some c => { s with pending := [c] }
  | none => s.microsecond

end Sys2Proof.Machine
end

