-- ==== Sys2Proof/Machine/Dispatch.lean ====
section
/-! DEFINITION. The commands' meanings, one arm for each row of the table. -/

namespace Sys2Proof.Machine

/-- The effect of a command on everything but the queue. -/
def exec (i : Instr) (s : State) : Host.Outcome State Fault Refusal :=
  match i with
  | .powerOnReset pins => Sys2Proof.Machine.execPowerOnReset pins s
  | .pcieLinkReset pins => Sys2Proof.Machine.execPcieLinkReset pins s
  | .start => Sys2Proof.Machine.execStart s
  | .stop => Sys2Proof.Machine.execStop s
  | .reset => Sys2Proof.Machine.execReset s
  | .causeWrite v => Sys2Proof.Machine.execCauseWrite v s
  | .enableWrite v => Sys2Proof.Machine.execEnableWrite v s
  | .registerWrite o w v => Sys2Proof.Machine.execRegisterWrite o w v s
  | .headerReadReturn h => Sys2Proof.Machine.execHeaderReadReturn h s
  | .busError a => Sys2Proof.Machine.execBusError a s
  | .readTimeout a => Sys2Proof.Machine.execReadTimeout a s
  | .referencePulse o => Sys2Proof.Machine.execReferencePulse o s
  | .lossDeadlineExpiry o => Sys2Proof.Machine.execLossDeadlineExpiry o s
  | .tickTimerExpiry o => Sys2Proof.Machine.execTickTimerExpiry o s
  | .holdoverLimitReached o => Sys2Proof.Machine.execHoldoverLimitReached o s
  | .silenceExpiry e => Sys2Proof.Machine.execSilenceExpiry e s
  | .huntMarkFound e p m => Sys2Proof.Machine.execHuntMarkFound e p m s
  | .verifyMark e p m => Sys2Proof.Machine.execVerifyMark e p m s
  | .rowPosition e m b => Sys2Proof.Machine.execRowPosition e m b s
  | .frameHead e h => Sys2Proof.Machine.execFrameHead e h s
  | .frameTail e t => Sys2Proof.Machine.execFrameTail e t s
  | .fillUnit e f => Sys2Proof.Machine.execFillUnit e f s
  | .partnerWaitExpiry => Sys2Proof.Machine.execPartnerWaitExpiry s
  | .takeCloseCompletion => Sys2Proof.Machine.execTakeCloseCompletion s
  | .sampleMessage p c f => Sys2Proof.Machine.execSampleMessage p c f s
  | .messageDeadlineExpiry p => Sys2Proof.Machine.execMessageDeadlineExpiry p s
  | .measurementBegin => Sys2Proof.Machine.execMeasurementBegin s
  | .measurementDone => Sys2Proof.Machine.execMeasurementDone s
  | .deliveryStart => Sys2Proof.Machine.execDeliveryStart s
  | .copyCompletion n => Sys2Proof.Machine.execCopyCompletion s n
  | .recordWriteAccepted => Sys2Proof.Machine.execRecordWriteAccepted s
  | .consumedReadReturn v => Sys2Proof.Machine.execConsumedReadReturn v s
  | .statusWriteAccepted => Sys2Proof.Machine.execStatusWriteAccepted s
  | .drainingEndReached => Sys2Proof.Machine.execDrainingEndReached s
  | .endOfDraining => Sys2Proof.Machine.execEndOfDraining s
  | .cueFetchReturn w => Sys2Proof.Machine.execCueFetchReturn w s
  | .faultRecordPlaced => Sys2Proof.Machine.execFaultRecordPlaced s
  | .holdRelease => Sys2Proof.Machine.execHoldRelease s
  | .park => Sys2Proof.Machine.execPark s
  | .pad => Sys2Proof.Machine.execPad s
  | .jump => Sys2Proof.Machine.execJump s
  | .call => Sys2Proof.Machine.execCall s
  | .returnCue => Sys2Proof.Machine.execReturnCue s
  | .eyeCue => Sys2Proof.Machine.execEyeCue s
  | .format => Sys2Proof.Machine.execFormat s
  | .orient => Sys2Proof.Machine.execOrient s
  | .probes => Sys2Proof.Machine.execProbes s
  | .link => Sys2Proof.Machine.execLink s
  | .matchCue => Sys2Proof.Machine.execMatchCue s
  | .track => Sys2Proof.Machine.execTrack s
  | .samples => Sys2Proof.Machine.execSamples s
  | .pace => Sys2Proof.Machine.execPace s
  | .target => Sys2Proof.Machine.execTarget s
  | .recall => Sys2Proof.Machine.execRecall s
  | .openTake => Sys2Proof.Machine.execOpenTake s
  | .closeTake => Sys2Proof.Machine.execCloseTake s
  | .note => Sys2Proof.Machine.execNote s
  | .waitCue => Sys2Proof.Machine.execWaitCue s
  | .waitEnd => Sys2Proof.Machine.execWaitEnd s
  | .sampleCharacter p c f => Sys2Proof.Machine.execSampleCharacter p c f s
  | .configurationAccess m b => Sys2Proof.Machine.execConfigurationAccess m b s

end Sys2Proof.Machine
end

