-- ==== Sys2Proof/Machine/Encoding.lean ====
section
/-! DEFINITION. The cues as the host writes them (11, The cue encodings), and the ranges of their values (09). The
reader never uses these: they stand beside the field checks of Machine/Operands.lean, so that the two can be
compared. -/

namespace Sys2Proof.Machine

/-- The code byte of a cue. -/
def CueName.code : CueName → Byte
  | .park => 0x00#8
  | .pad => 0x01#8
  | .jump => 0x10#8
  | .call => 0x11#8
  | .ret => 0x12#8
  | .eye => 0x18#8
  | .format => 0x20#8
  | .orient => 0x21#8
  | .probes => 0x22#8
  | .link => 0x23#8
  | .matching => 0x30#8
  | .track => 0x31#8
  | .samples => 0x32#8
  | .pace => 0x33#8
  | .target => 0x40#8
  | .recall => 0x41#8
  | .openTake => 0x50#8
  | .closeTake => 0x51#8
  | .note => 0x58#8
  | .wait => 0x5C#8

/-- The eye code of EYE. -/
def eyeByte : EyeChoice → Byte
  | .both => 0#8
  | .only .left => 1#8
  | .only .right => 2#8

/-- The packing code of FORMAT. -/
def packingByte : Packing → Byte
  | .sequential => 0#8
  | .rowPaired => 1#8

/-- The orientation code of ORIENT. -/
def orientationByte : Orientation → Byte
  | .normal => 0#8
  | .flipRows => 1#8
  | .flipColumns => 2#8
  | .rotate180 => 3#8

/-- The policy code of MATCH. -/
def policyByte : OrphanPolicy → Byte
  | .drop => 0#8
  | .single => 1#8
  | .double => 2#8

/-- The mode code of TRACK. -/
def modeByte : TrackMode → Byte
  | .auto => 0#8
  | .fixed => 1#8

/-- The condition code and the argument of WAIT. -/
def waitFieldsOf : WaitCondition → Byte × Nat
  | .lock => (0#8, 0)
  | .pairs n => (1#8, n)
  | .ticks n => (2#8, n)
  | .takeClosed => (3#8, 0)

/-- A cue's bytes, in the layout of the cue encoding table. -/
def Cue.bytes : Cue → List Byte
  | .park => [0x00#8]
  | .pad => [0x01#8]
  | .jump t => [0x10#8, 0#8, 0#8, 0#8] ++ leBytes 4 t
  | .call t => [0x11#8, 0#8, 0#8, 0#8] ++ leBytes 4 t
  | .ret => [0x12#8]
  | .eye c => [0x18#8, eyeByte c]
  | .format f =>
      [0x20#8, BitVec.ofNat 8 f.depth.bits, packingByte f.packing, 0#8] ++ leBytes 2 f.width ++ leBytes 2 f.height
  | .orient o => [0x21#8, orientationByte o]
  | .probes p =>
      [0x22#8, BitVec.ofNat 8 p.rows.length, BitVec.ofNat 8 p.range, 0#8] ++ p.rows.flatMap (leBytes 2)
  | .link b => [0x23#8, if b then 1#8 else 0#8]
  | .matching m =>
      [0x30#8, policyByte m.policy, BitVec.ofNat 8 m.partnerWait, 0#8] ++ leBytes 4 m.window ++
        leBytes 4 m.skewLimit
  | .track t =>
      [0x31#8, modeByte t.mode, BitVec.ofNat 8 t.settleCount, BitVec.ofInt 8 t.fixedOffset] ++
        leBytes 2 t.floor ++ leBytes 2 t.fill.toNat
  | .samples x => [0x32#8, 0#8, 0#8, 0#8] ++ leBytes 4 x.lead ++ leBytes 4 x.maxAge
  | .pace p => [0x33#8, 0#8, 0#8, 0#8] ++ leBytes 4 p.freePeriod ++ leBytes 4 p.holdoverLimit
  | .target t =>
      [0x40#8, 0#8] ++ leBytes 2 t.tag.toNat ++ leBytes 4 t.size.toNat ++ leBytes 8 t.address.toNat
  | .recall => [0x41#8]
  | .openTake n => [0x50#8, 0#8, 0#8, 0#8] ++ leBytes 4 n.toNat
  | .closeTake => [0x51#8]
  | .note v => [0x58#8, 0#8, 0#8, 0#8] ++ leBytes 4 v.toNat
  | .wait c => [0x5C#8, (waitFieldsOf c).1, 0#8, 0#8] ++ leBytes 4 (waitFieldsOf c).2

/-- FORMAT's ranges, the frame size among them (R169). -/
def FormatSetting.inRange (f : FormatSetting) : Bool :=
  decide (256 ≤ f.width) && decide (f.width ≤ 4096) && f.width % 64 == 0 && decide (128 ≤ f.height) &&
    decide (f.height ≤ 4096) && decide (f.width * f.height * f.depth.bits ≤ 8 * Config.slotBytes)

/-- PROBES's ranges under a format height (R172). -/
def ProbeSetting.inRange (p : ProbeSetting) (height : Nat) : Bool :=
  decide (p.rows.length ≤ 8) && decide (p.range ≤ 16) && p.rows.all (fun r => decide (r < height)) &&
    decide p.rows.Nodup

/-- MATCH's ranges (R175). -/
def MatchSetting.inRange (m : MatchSetting) : Bool :=
  decide (1 ≤ m.partnerWait) && decide (m.partnerWait ≤ 8) && decide (1 ≤ m.window) && decide (m.window ≤ 65535) &&
    decide (1 ≤ m.skewLimit) && decide (m.skewLimit ≤ 65535)

/-- TRACK's ranges (R176). -/
def TrackSetting.inRange (t : TrackSetting) : Bool :=
  decide (1 ≤ t.settleCount) && decide (t.settleCount ≤ 8) && decide (-16 ≤ t.fixedOffset) &&
    decide (t.fixedOffset ≤ 16) && decide (t.floor ≤ 65535)

/-- SAMPLES's ranges (R177). -/
def SampleSetting.inRange (x : SampleSetting) : Bool :=
  decide (x.lead ≤ 100000) && decide (1000 ≤ x.maxAge) && decide (x.maxAge ≤ 1000000)

/-- PACE's ranges (R178). -/
def PaceSetting.inRange (p : PaceSetting) : Bool :=
  decide (4000 ≤ p.freePeriod) && decide (p.freePeriod ≤ 100000) && decide (1 ≤ p.holdoverLimit) &&
    decide (p.holdoverLimit ≤ 65535)

/-- TARGET's ranges (R179). -/
def Target.inRange (t : Target) : Bool :=
  t.address != 0#64 && t.address.toNat % 64 == 0 && decide (t.address.toNat + t.size.toNat ≤ 2 ^ 64)

/-- WAIT's ranges (R185). -/
def WaitCondition.inRange : WaitCondition → Bool
  | .lock | .takeClosed => true
  | .pairs n | .ticks n => decide (1 ≤ n) && decide (n ≤ 65535)

/-- A cue's values are in range, in a window of the size given and under the format height given (09). -/
def Cue.inRange (c : Cue) (size height : Nat) : Bool :=
  match c with
  | .jump t | .call t => decide (t < size)
  | .format f => f.inRange
  | .probes p => p.inRange height
  | .matching m => m.inRange
  | .track t => t.inRange
  | .samples x => x.inRange
  | .pace p => p.inRange
  | .target t => t.inRange
  | .wait c => c.inRange
  | .park | .pad | .ret | .eye _ | .orient _ | .link _ | .recall | .openTake _ | .closeTake | .note _ => true

end Sys2Proof.Machine
end

