-- ==== Sys2Proof/Safety.lean ====
section
/-! DEFINITION. What a sound state of the part is: the bounds the manual gives its collections, the ranges of its
settings and of the offset tracker, the coherence of the Pace Generator, the rest of IDLE; and what the decode
that follows a cue may change. The statements use these words. -/

namespace Sys2Proof.Machine

/-! ### Bounds -/

/-- The pending-results queue: at most 8 records and reservations together (R123), and a place is reserved
exactly while a delivery is in flight (R124). -/
def State.placesSound (s : State) : Prop :=
  s.writer.held.length + s.writer.reserved ≤ 8 ∧ s.writer.reserved = if s.delivery.copy.isSome then 1 else 0

/-- The pair table (R61), the target list (R110), the return stack (R145), the sample stacks (R85) and the mark
histories (R6) keep their room. -/
def State.roomSound (s : State) : Prop :=
  s.matcher.table.length ≤ 6 ∧ s.delivery.targets.length ≤ 32 ∧ s.reader.stack.length ≤ 4 ∧
  s.leftLens.stack.length ≤ 4 ∧ s.rightLens.stack.length ≤ 4 ∧ s.rig.stack.length ≤ 4 ∧
  s.left.history.length ≤ 8 ∧ s.right.history.length ≤ 8

/-- The prefetch buffer (R136, R137): 32 positions, and a fetch in flight finds room for its 8 bytes. -/
def State.bufferSound (s : State) : Prop :=
  s.reader.buffer.length ≤ 32 ∧ (s.reader.fetch.isSome → s.reader.buffer.length ≤ 24)

/-- The pool has N slots (R21), each eye queue holds at most 8, and at most 7 while its eye fills a slot (R25,
R27). -/
def State.poolSound (s : State) : Prop :=
  s.store.slots.length = s.straps.poolSize ∧
  s.store.leftQueue.length ≤ 8 ∧ s.store.rightQueue.length ≤ 8 ∧
  (s.left.filling.isSome → s.store.leftQueue.length ≤ 7) ∧
  (s.right.filling.isSome → s.store.rightQueue.length ≤ 7)

/-! ### Settings and the offset tracker -/

/-- Every setting is within the ranges of its cue (R162). -/
def State.settingsSound (s : State) : Prop :=
  s.settings.format.inRange = true ∧ s.settings.probes.inRange s.settings.format.height = true ∧
  s.settings.matching.inRange = true ∧ s.settings.track.inRange = true ∧ s.settings.samples.inRange = true ∧
  s.settings.pace.inRange = true

/-- An offset lies within −16..+16. -/
def offsetSound (x : Int) : Prop := -16 ≤ x ∧ x ≤ 16

/-- The applied offset, the candidate and every applied offset written into an entry lie within −16..+16
(R61, R100); a measurement in progress searches no further than 16 rows (R93). -/
def State.trackerSound (s : State) : Prop :=
  offsetSound s.align.offset ∧ (∀ c, s.align.candidate = some c → offsetSound c) ∧
  (∀ m, s.align.busy = some m → m.range ≤ 16) ∧
  (∀ x ∈ s.matcher.table, ∀ a, x.applied = some a → offsetSound a)

/-! ### The Pace Generator -/

/-- The Pace Generator is coherent: REFERENCED has a loss deadline and no timer, HOLDOVER and FREE a timer and no
deadline; HOLDOVER and REFERENCED have a measured period; under ABSENT the state is FREE with nothing measured
(R40 to R45). -/
def State.paceSound (s : State) : Prop :=
  (match s.pace.state with
    | .referenced => s.pace.timer = none ∧ s.pace.deadline.isSome ∧ s.pace.measured.isSome ∧
        s.pace.previousPulse.isSome
    | .holdover => s.pace.timer.isSome ∧ s.pace.deadline = none ∧ s.pace.measured.isSome ∧ s.pace.runCount ≤ 3
    | .free => s.pace.timer.isSome ∧ s.pace.deadline = none ∧ s.pace.runCount ≤ 3) ∧
  s.pace.holdoverCount ≤ 65535 ∧
  (s.straps.referencePresent = false →
    s.pace.state = .free ∧ s.pace.measured = none ∧ s.pace.previousPulse = none ∧ s.pace.inconsistent = 0#32)

/-! ### IDLE (R194) -/

/-- A receiver at rest. -/
def Receiver.atRest (r : Receiver) : Prop := r.sync = .off ∧ r.filling = none ∧ r.history = [] ∧ r.expectation = none

/-- The blocks other than the Pace Generator and the Register Window are at rest: every slot FREE, both eye queues,
the pair table, the target list and the pending-results queue empty, both receivers OFF, the matcher STOPPED, the
take CLOSED, no measurement, delivery or host access in flight, the reader OFF (R194). -/
def State.atRest (s : State) : Prop :=
  (∀ x ∈ s.store.slots, x = .free) ∧ s.store.leftQueue = [] ∧ s.store.rightQueue = [] ∧
  s.left.atRest ∧ s.right.atRest ∧ s.matcher.state = .stopped ∧ s.matcher.table = [] ∧
  s.matcher.take = .closed ∧ s.leftLens.reception = .awaiting ∧ s.rightLens.reception = .awaiting ∧
  s.rig.reception = .awaiting ∧ s.align.busy = none ∧ s.delivery.targets = [] ∧ s.delivery.copy = none ∧
  s.writer.state = .stopped ∧ s.writer.held = [] ∧ s.writer.reserved = 0 ∧ s.writer.recordWrite = none ∧
  s.writer.consumedRead = none ∧ s.writer.statusWrite = none ∧ s.reader.state = .off ∧ s.reader.fetch = none ∧
  s.regs.headerRead = none

/-- IDLE is a state of rest. -/
def State.idleSound (s : State) : Prop := s.regs.run = .idle → s.atRest

/-! ### The decode that follows a cue -/

/-- `t` differs from `s` at most in what the fetch and the decode at the cursor bring about: the reader's state and
its fetch in flight; and, only where the cue now at the cursor faults, the CUE_FAULT cause with its message and the
CUE FAULT record placed in the pending-results queue (R137, R142, R129, R156, R157). -/
structure DecodesOn (s t : State) : Prop where
  pending : t.pending = s.pending
  straps : t.straps = s.straps
  settings : t.settings = s.settings
  left : t.left = s.left
  right : t.right = s.right
  store : t.store = s.store
  pace : t.pace = s.pace
  matcher : t.matcher = s.matcher
  leftLens : t.leftLens = s.leftLens
  rightLens : t.rightLens = s.rightLens
  rig : t.rig = s.rig
  align : t.align = s.align
  delivery : t.delivery = s.delivery
  reader : ∃ state fetch, t.reader = { s.reader with state := state, fetch := fetch }
  outcome : (t.regs = s.regs ∧ t.carried = s.carried ∧ t.writer = s.writer) ∨
    ∃ code mark, t.reader.state = .faulted code mark ∧
      t.regs = { s.regs with cause := s.regs.cause ||| Cause.cueFault.bit } ∧
      t.carried = (s.setCause .cueFault).carried ∧
      (mark = true → t.writer = s.writer) ∧
      (mark = false → t.writer = (s.place (.cueFault code s.reader.cursor)).writer)

/-- The reader is RUNNING and the cue stands at its cursor with every check of R142 passed. -/
def State.standsReady (s : State) (c : Cue) : Prop := s.reader.state = .running ∧ s.verdict = .ready c

/-- The reader after an advancing cue of a length: RUNNING past it, one more cue executed (R143). -/
def State.past (s : State) (length : Nat) : State :=
  { s with
    reader := { s.reader with
      state := .running
      buffer := s.reader.buffer.drop length
      cursor := s.reader.cursor + length
      executed := Counter.inc s.reader.executed } }

/-- The reader after a cue that moves the cursor: RUNNING there, its buffer flushed (R139), one more cue executed. -/
def State.movedTo (s : State) (cursor : Nat) : State :=
  { s with
    reader := { s.reader with
      state := .running
      buffer := []
      cursor := cursor
      sequence := s.reader.sequence + 1
      fetchPointer := cursor / 8 * 8
      skip := cursor % 8
      executed := Counter.inc s.reader.executed } }

/-- Nothing changes but the register window, the Bus Port's list and the Pace Generator. -/
structure OnlyRegistersAndPace (s t : State) : Prop where
  pending : t.pending = s.pending
  straps : t.straps = s.straps
  settings : t.settings = s.settings
  left : t.left = s.left
  right : t.right = s.right
  store : t.store = s.store
  matcher : t.matcher = s.matcher
  leftLens : t.leftLens = s.leftLens
  rightLens : t.rightLens = s.rightLens
  rig : t.rig = s.rig
  align : t.align = s.align
  delivery : t.delivery = s.delivery
  writer : t.writer = s.writer
  reader : t.reader = s.reader

/-- Nothing changes but the register window and the Bus Port's list. -/
structure OnlyRegisters (s t : State) : Prop extends OnlyRegistersAndPace s t where
  pace : t.pace = s.pace

/-- What every reset leaves, whichever it is (R199): the blocks at their reset values under the straps `p`, CAUSE and
ENABLE 0, IDLE with the halt reason NONE, nothing in flight; what the receivers keep is said beside it. -/
structure StartsAnew (t : State) (p : Straps) : Prop where
  straps : t.straps = p
  settings : t.settings = Settings.defaults p
  run : t.regs.run = .idle
  halt : t.regs.halt = .noReason
  cause : t.regs.cause = 0#9
  enable : t.regs.enable = 0#9
  headerRead : t.regs.headerRead = none
  slots : t.store.slots = List.replicate p.poolSize .free
  queues : t.store.leftQueue = [] ∧ t.store.rightQueue = []
  flushed : t.store.flushed = 0#32
  pace : t.pace = PaceGenerator.reset
  matcher : t.matcher = PairMatcher.reset
  ports : t.leftLens = SamplePort.reset ∧ t.rightLens = SamplePort.reset ∧ t.rig = SamplePort.reset
  align : t.align = AlignmentUnit.reset
  delivery : t.delivery = DeliveryEngine.reset
  writer : t.writer = ResultWriter.reset
  reader : t.reader = CueReader.reset

/-! ### A receiver that leaves FRAME_LOCK (R11) -/

/-- The frame being filled at one eye cut: the eye fills no frame, the cut is counted, its FILLING slot is FREE (R11,
R26), and the move of the slot is followed by the close check (R75). -/
def State.withCut (s : State) (e : Eye) : State :=
  match (s.receiver e).filling with
  | none => s
  | some f =>
    State.closeCheck
      { (s.onReceiver e fun r =>
          { r with filling := none, counters := { r.counters with cuts := Counter.inc r.counters.cuts } }) with
        store := { s.store with
          slots := if (s.store.slot f.slot).isFilling then s.store.slots.set f.slot .free else s.store.slots } }

/-- The state in which the matcher makes its pass after one eye's receiver has left FRAME_LOCK for what `after` makes
of it: the frame being filled is cut, LINK is set, and the matcher has been told: from TRACKING it is in ACQUIRE with
the alarm ARMED (R11, R50, R68, R197). -/
def State.afterDeparture (s : State) (e : Eye) (after : Receiver → Receiver) : State :=
  let left : State := ((s.withCut e).onReceiver e after).setCause .link
  { left with matcher := { left.matcher with
      state := if s.matcher.state = .tracking then .acquire else s.matcher.state
      alarm := if s.matcher.state = .tracking then .armed else s.matcher.alarm } }

/-- One eye's receiver leaves FRAME_LOCK: the cut, LINK, the matcher told, and its pass (R11, R50, R51). -/
def State.departs (s : State) (e : Eye) (after : Receiver → Receiver) : State := (s.afterDeparture e after).pass

/-- Nothing changes but one eye's receiver, the Frame Store, the Pair Matcher, the Alignment Unit, the register window
and the Bus Port's list; slot memory stays; and where a take close may complete, the writer and a waiting reader. -/
structure OnlyCapture (e : Eye) (s t : State) : Prop where
  pending : t.pending = s.pending
  straps : t.straps = s.straps
  settings : t.settings = s.settings
  other : t.receiver (otherEye e) = s.receiver (otherEye e)
  mem : t.store.mem = s.store.mem
  pace : t.pace = s.pace
  leftLens : t.leftLens = s.leftLens
  rightLens : t.rightLens = s.rightLens
  rig : t.rig = s.rig
  delivery : t.delivery = s.delivery
  writer : s.matcher.take ≠ .closing → t.writer = s.writer
  reader : s.matcher.take ≠ .closing → t.reader = s.reader

/-! ### Who owns a slot (R22, R27) -/

/-- The slots that the entries of the pair table hold. -/
def State.entrySlots (s : State) : List Nat := s.matcher.table.flatMap Entry.slots

/-- Every claimed slot has its one owner: a queued number names a QUEUED slot of its eye, once, and every QUEUED slot
stands in its eye's queue (R27); a frame being filled stands in a FILLING slot of its eye, in FRAME_LOCK, and every
FILLING slot is that of its eye's receiver (R13, R24); the entries' slots are HELD, each in one entry alone, and every
HELD slot is an entry's (R22, R28). -/
structure State.slotsSound (s : State) : Prop where
  queued : ∀ e n, n ∈ s.store.queue e → ∃ f, s.store.slot n = .queued f ∧ f.eye = e
  once : ∀ e, (s.store.queue e).Nodup
  inQueue : ∀ n f, s.store.slot n = .queued f → n ∈ s.store.queue f.eye
  filling : ∀ e f, (s.receiver e).filling = some f →
    (s.receiver e).sync = .frameLock ∧ ∃ x, s.store.slot f.slot = .filling x ∧ x.eye = e
  filled : ∀ n x, s.store.slot n = .filling x → ∃ f, (s.receiver x.eye).filling = some f ∧ f.slot = n
  held : ∀ n, n ∈ s.entrySlots ↔ (s.store.slot n).isHeld = true
  oneEntry : s.entrySlots.Nodup

/-! ### Byte layouts (11) -/

/-- One field of a layout: its offset, its width in bytes and its value. -/
structure LayoutField where
  offset : Nat
  width : Nat
  value : Int

/-- The bytes are laid out in a size: every field holds its value, modulo its width and so in two's complement, and
every byte of no field is zero (R202). -/
structure Laid (size : Nat) (bytes : List Byte) (fields : List LayoutField) : Prop where
  length : bytes.length = size
  reads : ∀ f ∈ fields, (fieldAt bytes f.offset f.width : Int) = f.value % 2 ^ (8 * f.width)
  zeros : ∀ i, (∀ f ∈ fields, i < f.offset ∨ f.offset + f.width ≤ i) → byteAt bytes i = 0#8

end Sys2Proof.Machine
end

