-- ==== Sys2Proof/Certificates/Slice0/Obligations.lean ====
section
/-! DEFINITION. The statements for the provers. Each name says what its statement states; OBLIGATIONS.json lists
them with the rules they come from. A clause that rests on a choice of the model names its log entry. -/

section

open Sys2Proof Sys2Proof.Machine

/-! ### The queue and the step -/

/-- A step takes the command at the front of the queue and runs exec on it with the queue's rest (log 1). -/
def Obligations.StepTakesFront : Prop :=
  ∀ (c : Instr) (rest : List Instr) (s : State), s.pending = c :: rest → step s = exec c { s with pending := rest }

/-- On an empty queue the part's own due event becomes the next command; with none due, one microsecond of the Stamp
Counter passes and nothing else changes (R37; the schedule is the model's choice, log 3). The own events, each with
when it is due, in the order in which the first one due is taken: a write that cannot be accepted, the ticks a
receiver or the matcher owes (log 5, log 6), the Cue Reader's event (log 7, log 9), a measurement that has lasted
100 microseconds (log 18) or can begin, a delivery, the end of DRAINING, the loss deadline and the timer (log 8),
message deadlines, read timeouts. -/
def Obligations.EmptyQueueStep : Prop :=
  (∀ s : State, s.pending = [] →
    (∀ c, s.ownEvent = some c → step s = .next { s with pending := [c] }) ∧
    (s.ownEvent = none → step s = .next { s with pace := { s.pace with stamp := s.pace.stamp + 1#48 } })) ∧
  [CueName.park, .pad, .jump, .call, .ret, .eye, .format, .orient, .probes, .link, .matching, .track, .samples, .pace,
      .target, .recall, .openTake, .closeTake, .note, .wait].map cueInstr =
    [Instr.park, .pad, .jump, .call, .returnCue, .eyeCue, .format, .orient, .probes, .link, .matchCue, .track, .samples,
      .pace, .target, .recall, .openTake, .closeTake, .note, .waitCue] ∧
  ∀ s : State,
    let m := s.matcher
    let w := s.writer
    let due := fun (p : Bool) (c : Instr) => if p then some c else none
    let since := fun t : Stamp => (s.pace.stamp - t).toNat
    let room := decide (w.held.length + w.reserved < 8)
    let accesses := s.regs.run == .starting || s.regs.run == .running || s.regs.run == .draining
    let fails := fun (a : Access) (inFlight : Bool) =>
      due (accesses && inFlight && !s.regs.busMaster) (.busError a)
    let owes := m.tickOwed && m.state != .stopped
    let expires := fun e : Eye => (s.head e).isSome && !(m.mark e).expired && (s.store.queue (otherEye e)).isEmpty &&
      (s.receiver (otherEye e)).sync == .frameLock && decide (s.settings.matching.partnerWait ≤ (m.mark e).count + 1)
    let closes := m.take == .closing && (match exec .partnerWaitExpiry s with
      | .next t => t.matcher.take == .closed
      | _ => false)
    let readerEvent := match s.reader.state with
      | .running => match s.verdict with
        | .ready c => some (cueInstr c.name)
        | .hold c _ => some (cueInstr c.name)
        | _ => none
      | .held reason => match s.verdict with
        | .ready _ => some .holdRelease
        | .hold _ now => due (now != reason) .holdRelease
        | _ => none
      | .waiting _ _ ended => due ended .waitEnd
      | .faulted _ unplaced => due (unplaced && room) .faultRecordPlaced
      | _ => none
    let looks := s.regs.run == .running || s.regs.run == .halted || (s.regs.run == .starting && s.regs.startedHalted)
    let measurement := match s.align.busy with
      | some p => due (decide (100 ≤ since p.begun)) .measurementDone
      | none => due (s.align.looking && looks && m.table.any fun x => x.state == .measuring) .measurementBegin
    let oldestReady := match m.table with
      | x :: _ => x.state == .ready && x.disposition == .deliver
      | [] => false
    let quiet := s.regs.headerRead.isNone && s.reader.fetch.isNone && w.consumedRead.isNone &&
      w.recordWrite.isNone && w.statusWrite.isNone && s.delivery.copy.isNone
    let draining := s.regs.run == .draining
    let loss := match s.pace.deadline with
      | some d => due (s.pace.state == .referenced && decide (d.wait ≤ since d.base)) (.lossDeadlineExpiry [])
      | none => none
    let timer := match s.pace.timer with
      | some t => due (decide (t.wait ≤ since t.base))
          (if s.pace.state = .holdover ∧ s.settings.pace.holdoverLimit ≤ min (s.pace.holdoverCount + 1) 65535 then
            .holdoverLimitReached [] else .tickTimerExpiry [])
      | none => none
    let deadline := fun port : PortId => match (s.port port).reception with
      | .collecting start _ => due (decide (2000 ≤ since start)) (.messageDeadlineExpiry port)
      | .awaiting => none
    let timeout := fun (a : Access) (issued : Option Stamp) => match issued with
      | some t => due (accesses && decide (50000 ≤ since t)) (.readTimeout a)
      | none => none
    s.ownEvent = [
      fails .targetWrite s.delivery.copy.isSome,
      fails .recordWrite (w.recordWrite.isSome && w.inTurn .recordWrite),
      fails .statusWrite (w.statusWrite.isSome && w.inTurn .statusWrite),
      due s.left.tickOwed (.silenceExpiry .left), due s.right.tickOwed (.silenceExpiry .right),
      due (owes && closes && !expires .left && !expires .right) .takeCloseCompletion, due owes .partnerWaitExpiry,
      readerEvent, measurement,
      due (s.regs.run == .running && s.delivery.copy.isNone && room && oldestReady && !s.delivery.targets.isEmpty)
        .deliveryStart,
      due (draining && !s.regs.drainedStarting && w.final == .notReached && quiet &&
        (w.held.isEmpty || w.state == .waiting)) .drainingEndReached,
      due (draining && s.regs.headerRead.isNone && (w.final == .accepted || s.regs.drainedStarting)) .endOfDraining,
      loss, timer, deadline .leftLens, deadline .rightLens, deadline .rig,
      timeout .headerRead (s.regs.headerRead.map (·.issued)), timeout .cueFetch (s.reader.fetch.map (·.issued)),
      timeout .consumedRead (w.consumedRead.map (·.issued))].findSome? id

/-- Every command answers a next state in every state, and leaves the queue to step. The rules say so of the states in
which a command's event comes about; that it answers next with no effect where the event cannot occur is the model's
choice (log 2, DESIGN CHOICE). -/
def Obligations.CommandsAnswer : Prop :=
  ∀ (c : Instr) (s : State), ∃ t : State, exec c s = .next t ∧ t.pending = s.pending

/-! ### Resets, straps and the register window -/

/-- The machine after a power-on reset, every field of it. The values the spec gives no field are the model's choice
(the straps shown: log 10; the latched bases, a receiver's positions and marks, the run marks, the looking mark, the
close stamp: log 11; the carried list: log 28); the owed ticks, the last timer tick and the dropped run are the
model's own (log 5, log 34). -/
def Obligations.ResetValues : Prop :=
  let s := State.reset
  let port : SamplePort := { reception := .awaiting, stack := [], bad := 0#32, overruns := 0#32 }
  s.pending = [] ∧ s.straps = { rigMode := .parallel, slotsFull := true, referencePresent := true } ∧ s.carried = [] ∧
  s.regs = {
    run := .idle, halt := .noReason, outcome := .noCommand, cause := 0#9, enable := 0#9, exchangeLo := 0#32
    exchangeHi := 0#32, startedHalted := false, drainedStarting := false, headerRead := none, msiEnable := false
    busMaster := false
    bases := { cueBase := 0#64, cueSize := 0, ringBase := 0#64, ringEntries := 0, statusBase := 0#64,
               consumedAddress := 0#64 } } ∧
  s.left = {
    sync := .off, rowLength := none, history := [], silence := 0, tickOwed := false, foundPosition := 0
    nextPosition := 0, scanFrom := 0, furtherMarks := 0, rowNumber := 0, boundary := false, expectation := none
    filling := none
    counters := { slips := 0#32, mismatches := 0#32, cuts := 0#32, headDamaged := 0#32, flawed := 0#32,
                  damagedRows := 0#32, countGaps := 0#32 } } ∧
  s.right = s.left ∧
  s.store = { slots := List.replicate 24 .free, leftQueue := [], rightQueue := [], flushed := 0#32, mem := [] } ∧
  s.pace = {
    stamp := 0#48, state := .free, measured := none, previousPulse := none, runCount := 0, runBase := none
    holdoverCount := 0, inconsistent := 0#32, timer := some { base := 0#48, wait := 41667 }, deadline := none
    tickAt := none, droppedRun := none } ∧
  s.matcher = {
    state := .stopped, table := [], nextUnit := 1#32, leftMark := ⟨0, false⟩, rightMark := ⟨0, false⟩
    tickOwed := false, skew := 0, alarm := .armed, droppedSince := 0, take := .closed, takeNumber := 0#32
    openStamp := 0#48, closeStamp := some 0#48, takeRecords := 0#32, pairsFormed := 0#32, orphansFormed := 0#32
    orphansDropped := 0#32 } ∧
  s.leftLens = port ∧ s.rightLens = port ∧ s.rig = port ∧
  s.align = {
    busy := none, looking := false, offset := 0, candidate := none, agreement := 0, valid := 0#32, invalid := 0#32
    settles := 0#32 } ∧
  s.delivery = { targets := [], copy := none, pairs := 0#32, singles := 0#32, doubles := 0#32, short := 0#32 } ∧
  s.writer = {
    state := .stopped, held := [], reserved := 0, nextSerial := 1#32, lastSerial := 0#32, consumed := 0#32
    recordWrite := none, consumedRead := none, statusWrite := none, presented := [], statusSerial := 0#32
    final := .notReached, unwritten := 0, recordsWritten := 0#32, roomWaits := 0#32, statusSkipped := 0#32 } ∧
  s.reader = {
    state := .off, buffer := [], cursor := 0, fetchPointer := 0, skip := 0, sequence := 0, fetch := none
    eyePrefix := none, stack := [], executed := 0#32, reLooks := 0#32 } ∧
  s.settings = {
    format := { depth := .twelve, packing := .sequential, width := 4096, height := 2160 }
    orientLeft := .normal, orientRight := .normal, probes := { rows := [], range := 0 }
    linkLeft := true, linkRight := true
    matching := { window := 500, partnerWait := 2, policy := .drop, skewLimit := 250 }
    track := { mode := .auto, settleCount := 3, floor := 64, fixedOffset := 0, fill := 0#16 }
    samples := { lead := 2000, maxAge := 50000 }
    pace := { freePeriod := 41667, holdoverLimit := 240 } }

/-- The three resets and what they differ in: straps, exchange registers, outcome, slot memory, configuration (R199).
The straps follow the pins' levels. That a receiver's positions, the numbers of bytes on its link, begin at 0 at a
power-on reset and go on being counted through the other two is the model's choice (log 13). -/
def Obligations.ResetsRestart : Prop :=
  let restarted := fun r : Receiver =>
    { Receiver.reset with nextPosition := r.nextPosition, scanFrom := r.scanFrom }
  (∀ slots reference : Bool,
    sampleStraps ⟨false, false, slots, reference⟩ = ⟨.parallel, slots, reference⟩ ∧
    sampleStraps ⟨false, true, slots, reference⟩ = ⟨.mirrorLeft, slots, reference⟩ ∧
    sampleStraps ⟨true, false, slots, reference⟩ = ⟨.mirrorRight, slots, reference⟩ ∧
    sampleStraps ⟨true, true, slots, reference⟩ = ⟨.parallel, slots, reference⟩) ∧
  ∀ (pins : StrapPins) (s : State),
    (∃ t : State, exec (.powerOnReset pins) s = .next t ∧ StartsAnew t (sampleStraps pins) ∧ t.pending = s.pending ∧
      t.store.mem = [] ∧ t.regs.outcome = .noCommand ∧ t.regs.exchangeLo = 0#32 ∧ t.regs.exchangeHi = 0#32 ∧
      t.regs.msiEnable = false ∧ t.regs.busMaster = false ∧ t.left = Receiver.reset ∧ t.right = Receiver.reset) ∧
    (∃ t : State, exec (.pcieLinkReset pins) s = .next t ∧ StartsAnew t (sampleStraps pins) ∧ t.pending = s.pending ∧
      t.store.mem = s.store.mem ∧ t.regs.outcome = .noCommand ∧ t.regs.exchangeLo = 0#32 ∧
      t.regs.exchangeHi = 0#32 ∧ t.regs.msiEnable = false ∧ t.regs.busMaster = false ∧ s.carried <+: t.carried ∧
      t.left = restarted s.left ∧ t.right = restarted s.right) ∧
    (∃ t : State, exec .reset s = .next t ∧ StartsAnew t s.straps ∧ t.pending = s.pending ∧ t.store.mem = s.store.mem ∧
      t.regs.outcome = .accepted ∧ t.regs.exchangeLo = s.regs.exchangeLo ∧ t.regs.exchangeHi = s.regs.exchangeHi ∧
      t.regs.msiEnable = s.regs.msiEnable ∧ t.regs.busMaster = s.regs.busMaster ∧ s.carried <+: t.carried ∧
      t.left = restarted s.left ∧ t.right = restarted s.right)

/-- START in IDLE and HALTED: STARTING with the header read issued at the exchange address, or HALTED with
HEADER_INVALID where that address is 0 or off a multiple of 64; refused in the other run states, where the outcome alone
changes. -/
def Obligations.StartBegins : Prop :=
  ∀ s : State,
    let address := s.regs.exchangeHi ++ s.regs.exchangeLo
    let begun : RegisterWindow := { s.regs with
      outcome := .accepted, run := .starting, startedHalted := decide (s.regs.run = .halted), drainedStarting := false }
    (s.regs.run = .idle ∨ s.regs.run = .halted → address ≠ 0#64 → address.toNat % 64 = 0 →
      exec .start s = .next { s with
        regs := { begun with headerRead := some { address := address, issued := s.pace.stamp } } }) ∧
    (s.regs.run = .idle ∨ s.regs.run = .halted → address = 0#64 ∨ address.toNat % 64 ≠ 0 →
      ∃ t : State, exec .start s = .next t ∧ OnlyRegisters s t ∧
        t.regs = { begun with run := .halted, halt := .headerInvalid, cause := s.regs.cause ||| 0x100#9 }) ∧
    (s.regs.run = .starting ∨ s.regs.run = .running ∨ s.regs.run = .draining →
      exec .start s = .next { s with regs := { s.regs with outcome := .refused } })

/-- STOP in STARTING and RUNNING: DRAINING, with the mark of whether it began in STARTING, and the receivers OFF (row
length, history and expectation dropped, and out of FRAME_LOCK a frame being filled cut, counted, its FILLING slot
FREE), the matcher STOPPED, the reader OFF, no measurement and no partial message, and the delivery in flight going on;
refused in the other run states. That the matcher stops ahead of the receivers' departures, which so end in no pass and
no close check, is the model's choice (log 20, DESIGN CHOICE). -/
def Obligations.StopDrains : Prop :=
  ∀ s : State,
    (s.regs.run = .starting ∨ s.regs.run = .running →
      ∃ t : State, exec .stop s = .next t ∧
        t.regs.run = .draining ∧ t.regs.drainedStarting = decide (s.regs.run = .starting) ∧
        t.regs.outcome = .accepted ∧ t.regs.halt = s.regs.halt ∧
        t.regs.enable = s.regs.enable ∧ t.regs.headerRead = s.regs.headerRead ∧ t.regs.bases = s.regs.bases ∧
        t.regs.cause = (if s.left.sync = .frameLock ∨ s.right.sync = .frameLock then s.regs.cause ||| 0x008#9
          else s.regs.cause) ∧
        (∀ e : Eye,
          let r := s.receiver e
          (t.receiver e).sync = .off ∧
          (r.sync = .off → t.receiver e = r) ∧
          (r.sync = .hunt ∨ r.sync = .verify ∨ r.sync = .rowLock → t.receiver e = { r with
            sync := .off, rowLength := none, history := [], expectation := none }) ∧
          (r.sync = .frameLock → t.receiver e = { r with
            sync := .off, rowLength := none, history := [], expectation := none, filling := none
            counters := { r.counters with
              cuts := if r.filling.isSome then Counter.inc r.counters.cuts else r.counters.cuts } }) ∧
          (∀ f, r.sync = .frameLock → r.filling = some f → (s.store.slot f.slot).isFilling = true →
            t.store.slot f.slot = .free)) ∧
        (∀ n, (s.store.slot n).isFilling = false → t.store.slot n = s.store.slot n) ∧
        (∀ n, (∀ e f, (s.receiver e).sync = .frameLock → (s.receiver e).filling = some f → f.slot ≠ n) →
          t.store.slot n = s.store.slot n) ∧
        t.matcher = { s.matcher with state := .stopped, tickOwed := false } ∧
        t.leftLens = { s.leftLens with reception := .awaiting } ∧
        t.rightLens = { s.rightLens with reception := .awaiting } ∧ t.rig = { s.rig with reception := .awaiting } ∧
        t.align = { s.align with busy := none, looking := false } ∧ t.reader = { s.reader with state := .off } ∧
        t.delivery = s.delivery ∧ t.writer = s.writer ∧ t.pace = s.pace ∧ t.settings = s.settings ∧
        t.straps = s.straps ∧ t.store.leftQueue = s.store.leftQueue ∧ t.store.rightQueue = s.store.rightQueue ∧
        t.store.flushed = s.store.flushed ∧ t.store.mem = s.store.mem) ∧
    (s.regs.run = .idle ∨ s.regs.run = .draining ∨ s.regs.run = .halted →
      exec .stop s = .next { s with regs := { s.regs with outcome := .refused } })

/-- The interrupt request and its MSI messages: the request is asserted while a bit is set in both CAUSE and ENABLE;
an assertion sends one message where MSI is enabled and bus mastering on; a cause set while it is asserted sends none;
the configuration sends none; a write to ENABLE that enables a set cause asserts it, and one that leaves none
deasserts it. -/
def Obligations.InterruptMessages : Prop :=
  ∀ s : State,
    (s.regs.request = true ↔ s.regs.cause &&& s.regs.enable ≠ 0#9) ∧
    (∀ (cause enable : BitVec 9),
      let t := s.setIrq cause enable
      t = { s with
        regs := { s.regs with cause := cause, enable := enable }
        carried := s.carried ++ (if s.regs.request = false ∧ cause &&& enable ≠ 0#9 ∧ s.regs.msiEnable = true ∧
          s.regs.busMaster = true then [BusItem.msi] else []) }) ∧
    (∀ c : Cause, s.setCause c = s.setIrq (s.regs.cause ||| c.bit) s.regs.enable ∧
      (s.regs.request = true → (s.setCause c).carried = s.carried)) ∧
    (∀ v, exec (.enableWrite v) s = .next (s.setIrq s.regs.cause (v.setWidth 9))) ∧
    (∀ msi busMaster, exec (.configurationAccess msi busMaster) s =
      .next { s with regs := { s.regs with msiEnable := msi, busMaster := busMaster } })

/-- The register window's writes: CONTROL by its low byte; CAUSE, where each bit written as 1 is cleared and nothing
else changes; ENABLE; and the exchange registers in every run state; writes to IDENT, STATE and 0x14, and writes
narrower than 32 bits, are ignored. Its reads give the addressed bytes: IDENT's vendor code, part code, SLOTS strap and
revision, STATE's run state, halt reason and outcome, and CONTROL and 0x14 read 0. A word write off a multiple of 4 is
ignored by the model's choice (log 22). -/
def Obligations.RegisterWrites : Prop :=
  ∀ (v : BitVec 32) (s : State),
    exec (.causeWrite v) s = .next { s with regs := { s.regs with cause := s.regs.cause &&& ~~~(v.setWidth 9) } } ∧
    exec (.registerWrite 0x18#5 .word v) s = .next { s with regs := { s.regs with exchangeLo := v } } ∧
    exec (.registerWrite 0x1C#5 .word v) s = .next { s with regs := { s.regs with exchangeHi := v } } ∧
    exec (.registerWrite 0x0C#5 .word v) s = exec (.causeWrite v) s ∧
    exec (.registerWrite 0x10#5 .word v) s = exec (.enableWrite v) s ∧
    exec (.enableWrite v) s = exec (.enableWrite (v &&& 0x1FF#32)) s ∧
    exec (.registerWrite 0x08#5 .word v) s =
      (if v.setWidth 8 = 0x01#8 then exec .start s else if v.setWidth 8 = 0x02#8 then exec .stop s
        else if v.setWidth 8 = 0x0F#8 then exec .reset s else .next s) ∧
    (∀ offset : BitVec 5, offset ∉ [0x08#5, 0x0C#5, 0x10#5, 0x18#5, 0x1C#5] →
      exec (.registerWrite offset .word v) s = .next s) ∧
    (∀ (offset : BitVec 5) (width : AccessWidth), width ≠ .word →
      exec (.registerWrite offset width v) s = .next s) ∧
    s.registerRead 0x08#5 .word = 0#32 ∧ s.registerRead 0x14#5 .word = 0#32 ∧
    s.registerRead 0x00#5 .word = s.straps.ident ∧ s.registerRead 0x04#5 .word = s.regs.stateWord ∧
    (let ident := s.registerRead 0x00#5 .word
     ident.extractLsb' 0 15 = 0x5C4E#15 ∧
     ident.extractLsb' 15 15 = (match s.straps.rigMode with
       | .parallel => 0x4A40#15
       | .mirrorLeft => 0x4A41#15
       | .mirrorRight => 0x4A42#15) ∧
     ident.getLsbD 30 = !s.straps.slotsFull ∧ ident.getLsbD 31 = true) ∧
    (let state := s.registerRead 0x04#5 .word
     state.extractLsb' 0 3 = (match s.regs.run with
       | .idle => 0#3
       | .starting => 1#3
       | .running => 2#3
       | .draining => 3#3
       | .halted => 4#3) ∧
     state.extractLsb' 4 2 = (match s.regs.halt with
       | .noReason => 0#2
       | .headerInvalid => 1#2
       | .busError => 2#2) ∧
     state.extractLsb' 8 2 = (match s.regs.outcome with
       | .noCommand => 0#2
       | .accepted => 1#2
       | .refused => 2#2) ∧
     state.extractLsb' 3 1 = 0#1 ∧ state.extractLsb' 6 2 = 0#2 ∧ state.extractLsb' 10 22 = 0#22) ∧
    s.registerRead 0x0C#5 .word = s.regs.cause.setWidth 32 ∧
    s.registerRead 0x10#5 .word = s.regs.enable.setWidth 32 ∧
    s.registerRead 0x18#5 .word = s.regs.exchangeLo ∧ s.registerRead 0x1C#5 .word = s.regs.exchangeHi ∧
    (∀ (offset : BitVec 5) (width : AccessWidth),
      let size := match width with
        | .byte => 1
        | .half => 2
        | .word => 4
      s.registerRead offset width = BitVec.ofNat 32
        ((s.registerRead (offset &&& 0x1C#5) .word).toNat / 2 ^ (8 * (offset.toNat % 4)) % 2 ^ (8 * size)))

/-- A valid header returned in STARTING: the bases latched, with the consumed word's address by the exchange address
that START read, the halt reason NONE, RUNNING, and every block's START actions; settings, straps, applied offset, slot
memory and the pace stay. CAUSE stays but for LINK, which a receiver sets that START takes out of FRAME_LOCK (read from
R197: log 26, DEDUCED). -/
def Obligations.HeaderStartsRun : Prop :=
  ∀ (h : BitVec 512) (read : HostRead) (s : State),
    s.regs.headerRead = some read → s.regs.run = .starting → headerValid h = true →
    ∃ t : State, exec (.headerReadReturn h) s = .next t ∧
      t.regs.run = .running ∧ t.regs.halt = .noReason ∧ t.regs.headerRead = none ∧
      t.regs.bases =
        { cueBase := h.extractLsb' 0 64, cueSize := (h.extractLsb' 64 32).toNat, ringBase := h.extractLsb' 128 64,
          ringEntries := (h.extractLsb' 96 32).toNat, statusBase := h.extractLsb' 192 64,
          consumedAddress := read.address + 0x20#64 } ∧
      t.regs.enable = s.regs.enable ∧ t.regs.outcome = s.regs.outcome ∧
      t.regs.cause = (if s.left.sync = .frameLock ∨ s.right.sync = .frameLock then s.regs.cause ||| 0x008#9
        else s.regs.cause) ∧
      t.left.sync = (if s.settings.linkLeft then .hunt else .off) ∧
      t.right.sync = (if s.settings.linkRight then .hunt else .off) ∧
      t.left.history = [] ∧ t.right.history = [] ∧ t.left.filling = none ∧ t.right.filling = none ∧
      t.left.expectation = none ∧ t.right.expectation = none ∧
      t.left.scanFrom = s.left.scanFrom ∧ t.right.scanFrom = s.right.scanFrom ∧
      t.left.counters = LinkCounters.zero ∧ t.right.counters = LinkCounters.zero ∧
      t.store = { s.store with
        slots := List.replicate s.store.slots.length .free, leftQueue := [], rightQueue := [], flushed := 0#32 } ∧
      t.pace = { s.pace with inconsistent := 0#32 } ∧
      t.matcher = { PairMatcher.reset with state := .acquire } ∧
      t.leftLens = SamplePort.reset ∧ t.rightLens = SamplePort.reset ∧ t.rig = SamplePort.reset ∧
      t.align = { AlignmentUnit.reset with offset := s.align.offset, looking := true } ∧
      t.delivery = DeliveryEngine.reset ∧ t.writer = { ResultWriter.reset with state := .idle } ∧
      t.reader = { CueReader.reset with
        state := .running
        fetch := some { sequence := 0, offset := 0, address := h.extractLsb' 0 64, issued := s.pace.stamp,
                        reLook := false } } ∧
      t.settings = s.settings ∧ t.straps = s.straps

/-- Which headers are valid, field by field. An invalid header halts the part with HEADER_INVALID and the HALT cause,
latching no base and leaving the blocks as they were; a header returned outside STARTING is discarded. -/
def Obligations.HeaderRefused : Prop :=
  (∀ h : BitVec 512,
    let cueBase := (h.extractLsb' 0 64).toNat
    let cueSize := (h.extractLsb' 64 32).toNat
    let entries := (h.extractLsb' 96 32).toNat
    let ringBase := (h.extractLsb' 128 64).toNat
    let statusBase := (h.extractLsb' 192 64).toNat
    headerValid h = true ↔
      cueBase ≠ 0 ∧ cueBase % 64 = 0 ∧ cueSize % 64 = 0 ∧ 64 ≤ cueSize ∧ cueSize ≤ 1048576 ∧
      cueBase + cueSize ≤ 2 ^ 64 ∧ ringBase ≠ 0 ∧ ringBase % 128 = 0 ∧
      (∃ k, 4 ≤ k ∧ k ≤ 12 ∧ entries = 2 ^ k) ∧ ringBase + 128 * entries ≤ 2 ^ 64 ∧
      statusBase ≠ 0 ∧ statusBase % 64 = 0 ∧ statusBase + 256 ≤ 2 ^ 64 ∧ h.extractLsb' 288 224 = 0#224) ∧
  ∀ (h : BitVec 512) (read : HostRead) (s : State), s.regs.headerRead = some read →
    (s.regs.run = .starting → headerValid h = false →
      ∃ t : State, exec (.headerReadReturn h) s = .next t ∧ OnlyRegisters s t ∧
        t.regs = { s.regs with
          headerRead := none, run := .halted, halt := .headerInvalid, cause := s.regs.cause ||| 0x100#9 }) ∧
    (s.regs.run ≠ .starting →
      exec (.headerReadReturn h) s = .next { s with regs := { s.regs with headerRead := none } })

/-- A bus error or a read timeout in STARTING, RUNNING or DRAINING: every access abandoned, the reader, the engine and
the writer stopped, partial messages dropped, HALTED with BUS_ERROR and the HALT cause; the other blocks go on as they
are. A failure of an access that is not in flight, that waits for a write its block presented before it, or of a run
state that makes none, has no effect: the model's choice (log 2, DESIGN CHOICE). That a read times out from the stamp
50,000 microseconds after its issue on, where READ_TIMEOUT is taken, is the model's choice (log 18, DESIGN CHOICE). -/
def Obligations.BusErrorHalts : Prop :=
  ∀ (a : Access) (s : State),
    let accesses : Prop := s.regs.run = .starting ∨ s.regs.run = .running ∨ s.regs.run = .draining
    let fails : Prop := accesses ∧
      (a = .recordWrite ∨ a = .statusWrite ∨ a = .consumedRead → s.writer.inTurn a = true) ∧
      ((s.readIssued a).isSome = true ∨ (s.writeInFlight a = true ∧ s.regs.busMaster = false))
    let late : Prop := accesses ∧ ∃ issued, s.readIssued a = some issued ∧ 50000 ≤ (s.pace.stamp - issued).toNat
    (∀ c : Instr, (c = .busError a ∧ fails) ∨ (c = .readTimeout a ∧ late) →
      ∃ t : State, exec c s = .next t ∧
        t.regs = { s.regs with
          headerRead := none, run := .halted, halt := .busError, cause := s.regs.cause ||| 0x100#9 } ∧
        t.reader = { s.reader with state := .off, fetch := none } ∧
        t.delivery = { s.delivery with copy := none } ∧
        t.writer = { s.writer with
          reserved := 0, state := .stopped, recordWrite := none, consumedRead := none, statusWrite := none,
          presented := [], final := .notReached } ∧
        t.leftLens = { s.leftLens with reception := .awaiting } ∧
        t.rightLens = { s.rightLens with reception := .awaiting } ∧ t.rig = { s.rig with reception := .awaiting } ∧
        t.left = s.left ∧ t.right = s.right ∧ t.store = s.store ∧ t.pace = s.pace ∧ t.matcher = s.matcher ∧
        t.align = s.align ∧ t.settings = s.settings ∧ t.straps = s.straps ∧ t.pending = s.pending ∧
        s.carried <+: t.carried) ∧
    (¬ fails → exec (.busError a) s = .next s) ∧ (¬ late → exec (.readTimeout a) s = .next s)

/-- The end of DRAINING: with no access in flight and no record held, or the writer WAITING, the held records are
discarded into the unwritten-records count and the final status write is issued with the status block as it then
stands. Its acceptance, or after a STOP in STARTING the end of the header read, enters IDLE: a flush not counted,
the blocks' IDLE values, the halt reason NONE, the outcome, the causes, the settings, the pace and the offset
tracker kept. Where the final write is still in flight, END_OF_DRAINING takes its acceptance and enters IDLE in one
act (log 31, DESIGN CHOICE). The status serial stays at its largest value (log 21, DEDUCED). That a receiver's
positions go on being counted is the model's choice (log 13). From the moment the end of DRAINING is reached, with the
matcher STOPPED and the reader OFF as STOP leaves them, no command but DRAINING_END_REACHED and a reset touches the
writer or puts the end off: a pace tick makes no status write (R193). That other commands may be taken between that
moment and DRAINING_END_REACHED is the model's choice (log 39, DESIGN CHOICE). -/
def Obligations.DrainingEnds : Prop :=
  let idles := fun s t : State =>
    t.regs = { s.regs with run := .idle, halt := .noReason, drainedStarting := false } ∧
    t.left = { Receiver.reset with nextPosition := s.left.nextPosition, scanFrom := s.left.scanFrom } ∧
    t.right = { Receiver.reset with nextPosition := s.right.nextPosition, scanFrom := s.right.scanFrom } ∧
    t.store = { s.store with
      slots := List.replicate s.store.slots.length .free, leftQueue := [], rightQueue := [], flushed := 0#32 } ∧
    t.matcher = PairMatcher.reset ∧
    t.leftLens = SamplePort.reset ∧ t.rightLens = SamplePort.reset ∧ t.rig = SamplePort.reset ∧
    t.align = { s.align with busy := none, looking := false, valid := 0#32, invalid := 0#32, settles := 0#32 } ∧
    t.delivery = DeliveryEngine.reset ∧ t.writer = ResultWriter.reset ∧ t.reader = CueReader.reset ∧
    t.pace = s.pace ∧ t.settings = s.settings ∧ t.straps = s.straps ∧ t.pending = s.pending
  (∀ s : State, s.regs.run = .draining → s.regs.drainedStarting = false → s.writer.final = .notReached →
    s.regs.headerRead = none → s.reader.fetch = none → s.writer.consumedRead = none → s.writer.recordWrite = none →
    s.writer.statusWrite = none → s.delivery.copy = none → s.writer.held = [] ∨ s.writer.state = .waiting →
    let discarded : State := { s with
      writer := { s.writer with held := [], unwritten := s.writer.held.length, state := .idle, final := .issued } }
    let serial := Counter.inc s.writer.statusSerial
    (discarded.statusBytes serial true).length = 256 ∧
    exec .drainingEndReached s = .next { discarded with
      writer := { discarded.writer with
        statusSerial := serial, presented := s.writer.presented ++ [.statusWrite]
        statusWrite := some { address := s.regs.bases.statusBase.toNat,
                              bytes := discarded.statusBytes serial true } } }) ∧
  (∀ s : State, s.regs.run = .draining → s.regs.headerRead = none →
    s.writer.final = .accepted ∨ (s.writer.final = .notReached ∧ s.regs.drainedStarting = true) →
    ∃ t : State, exec .endOfDraining s = .next t ∧ idles s t ∧ t.carried = s.carried) ∧
  (∀ (h : HostWrite) (s : State), s.regs.run = .draining → s.regs.headerRead = none → s.writer.final = .issued →
    s.writer.statusWrite = some h → s.regs.busMaster = true → s.writer.inTurn .statusWrite = true →
    ∃ t : State, exec .endOfDraining s = .next t ∧ idles s t ∧ t.carried = s.carried ++ [.write h]) ∧
  ∀ (c : Instr) (s : State), s.drained = true → s.matcher.state = .stopped → s.reader.state = .off →
    c ≠ .drainingEndReached → c ≠ .reset → (∀ pins, c ≠ .powerOnReset pins ∧ c ≠ .pcieLinkReset pins) →
    (∀ v, c = .registerWrite 0x08#5 .word v → v.setWidth 8 ≠ 0x0F#8) →
    ∃ t : State, exec c s = .next t ∧ t.writer = s.writer ∧ t.drained = true ∧ t.matcher.state = .stopped ∧
      t.reader.state = .off

/-! ### Pace -/

/-- A reference pulse that completes no lock: none is taken under ABSENT; the first after a reset has no interval; in
HOLDOVER and FREE each later one updates the lock run by its table, and produces no tick. Where the pulse comes at the
stamp of the tick that ended HOLDOVER, the run that stood before that tick must not be one it completes (R40, log 34). -/
def Obligations.LockRunFollowsPulses : Prop :=
  ∀ (order : List TickObserver) (s : State),
    (s.straps.referencePresent = false → exec (.referencePulse order) s = .next s) ∧
    (s.straps.referencePresent = true → s.pace.previousPulse = none →
      exec (.referencePulse order) s =
        .next { s with pace := { s.pace with previousPulse := some s.pace.stamp } }) ∧
    (∀ t, s.straps.referencePresent = true → s.pace.previousPulse = some t →
      s.pace.state = .free ∨ s.pace.state = .holdover →
      let i := (s.pace.stamp - t).toNat
      let g := { s.pace with previousPulse := some s.pace.stamp }
      let completesNone : Prop := ∀ c b, s.pace.droppedRun = some (c, some b) → s.pace.tickAt = some s.pace.stamp →
        3 ≤ c → b < ((i : Int) - b).natAbs * 100
      (i < 4000 ∨ 100000 < i → exec (.referencePulse order) s =
        .next { s with pace := { g with
          runCount := 0, runBase := none, inconsistent := Counter.inc s.pace.inconsistent } }) ∧
      (4000 ≤ i → i ≤ 100000 → completesNone → s.pace.runCount = 0 →
        exec (.referencePulse order) s = .next { s with pace := { g with runCount := 1, runBase := some i } }) ∧
      (∀ b, 4000 ≤ i → i ≤ 100000 → completesNone → 1 ≤ s.pace.runCount → s.pace.runCount ≤ 2 →
        s.pace.runBase = some b → ((i : Int) - b).natAbs * 100 ≤ b →
        exec (.referencePulse order) s = .next { s with pace := { g with runCount := s.pace.runCount + 1 } }) ∧
      (∀ b, 4000 ≤ i → i ≤ 100000 → completesNone → 1 ≤ s.pace.runCount → s.pace.runCount ≤ 3 →
        s.pace.runBase = some b → b < ((i : Int) - b).natAbs * 100 →
        exec (.referencePulse order) s = .next { s with pace := { g with runCount := 1, runBase := some i } }))

/-- The pulse that completes lock: REFERENCED with its interval as the measured period, the holdover count 0, the timer
stopped, the loss deadline 3/2 of the period later, one pace tick, and the PACE cause; so too from FREE at the stamp of
the tick that ended HOLDOVER, by the run that stood before that tick (R40, log 34). A consistent pulse in REFERENCED:
the measured period follows it, the loss deadline is armed anew, one tick. That the generator's own part is done before
any block takes the tick is the model's choice (log 4, DESIGN CHOICE). -/
def Obligations.LockedPulsesTick : Prop :=
  (∀ (order : List TickObserver) (t : Stamp) (b : Nat) (s : State),
    let i := (s.pace.stamp - t).toNat
    let meets : Prop := s.pace.tickAt = some s.pace.stamp
    s.straps.referencePresent = true → s.pace.previousPulse = some t →
    s.pace.state = .free ∨ s.pace.state = .holdover →
    ((s.pace.droppedRun = none ∨ ¬ meets) ∧ s.pace.runCount = 3 ∧ s.pace.runBase = some b) ∨
      (s.pace.droppedRun = some (3, some b) ∧ meets) →
    4000 ≤ i → i ≤ 100000 → ((i : Int) - b).natAbs * 100 ≤ b →
    exec (.referencePulse order) s = .next
      (({ s with pace := { s.pace with
          previousPulse := some s.pace.stamp, runCount := 4, runBase := some b, state := .referenced
          measured := some i, holdoverCount := 0, timer := none, droppedRun := none
          deadline := some { base := s.pace.stamp, wait := 3 * i / 2 } } } : State).tick order |>.setCause .pace)) ∧
  ∀ (order : List TickObserver) (t : Stamp) (s : State),
    let i := (s.pace.stamp - t).toNat
    s.straps.referencePresent = true → s.pace.previousPulse = some t → s.pace.state = .referenced →
    4000 ≤ i → i ≤ 100000 →
    exec (.referencePulse order) s = .next
      (({ s with pace := { s.pace with
          previousPulse := some s.pace.stamp, measured := some i,
          deadline := some { base := s.pace.stamp, wait := 3 * i / 2 } } } : State).tick order)

/-- Leaving REFERENCED, by the loss deadline or by an inconsistent pulse: HOLDOVER on the phase of the last good
pulse at T with the measured period P kept, its counts 0, ticks at T + P, T + 2P and on; where T + P has passed one
tick is produced and counted, which a limit of 1 makes the last of HOLDOVER, and otherwise none; the PACE cause.
Nothing else changes but what the blocks do at that tick. That the generator's own part is done before any block
takes the tick, and that the PACE cause of the entry follows it, is the model's choice (log 4, DESIGN CHOICE); the
tick's stamp and the run it drops are noted (log 34). -/
def Obligations.HoldoverBegins : Prop :=
  ∀ (order : List TickObserver) (last : Stamp) (p : Nat) (s : State),
    s.pace.state = .referenced → s.pace.previousPulse = some last → s.pace.measured = some p →
    ∀ c : Instr,
      (c = .lossDeadlineExpiry order ∧ ∃ d, s.pace.deadline = some d ∧ d.wait ≤ (s.pace.stamp - d.base).toNat) ∨
      (c = .referencePulse order ∧ s.straps.referencePresent = true ∧
        ((s.pace.stamp - last).toNat < 4000 ∨ 100000 < (s.pace.stamp - last).toNat)) →
    let begun : PaceGenerator := { s.pace with
      state := .holdover, holdoverCount := 0, runCount := 0, runBase := none, deadline := none, droppedRun := none
      previousPulse := if c = .referencePulse order then some s.pace.stamp else some last
      inconsistent := if c = .referencePulse order then Counter.inc s.pace.inconsistent else s.pace.inconsistent }
    ((s.pace.stamp - last).toNat ≤ p → exec c s = .next
      (({ s with pace := { begun with timer := some { base := last, wait := p } } } : State).setCause .pace)) ∧
    (p < (s.pace.stamp - last).toNat → 1 < s.settings.pace.holdoverLimit → exec c s = .next
      ((({ s with pace := { begun with
          holdoverCount := 1, tickAt := some s.pace.stamp, timer := some { base := last, wait := 2 * p } } } :
        State).tick order).setCause .pace)) ∧
    (p < (s.pace.stamp - last).toNat → s.settings.pace.holdoverLimit ≤ 1 → exec c s = .next
      (((({ s with pace := { begun with
          holdoverCount := 1, state := .free, tickAt := some s.pace.stamp, droppedRun := some (0, none)
          timer := some { base := s.pace.stamp, wait := s.settings.pace.freePeriod } } } :
        State).setCause .pace).tick order).setCause .pace))

/-- The tick timer: in FREE a tick and the next one F later; in HOLDOVER a tick that is counted, with the next one P
later, or the last one of HOLDOVER where the count reaches the limit, after which the state is FREE and PACE is set.
The model's choices: nothing happens before the timer is due (log 2, DESIGN CHOICE), the blocks take the tick once the
generator's own part and the PACE cause are done (log 4, DESIGN CHOICE), the limit's command is the timer's at that tick
(log 8, DEDUCED), and the tick's stamp and the run it drops are noted (log 34). -/
def Obligations.TimerTicks : Prop :=
  ∀ (order : List TickObserver) (s : State),
    ((∀ tm, s.pace.timer = some tm → (s.pace.stamp - tm.base).toNat < tm.wait) →
      exec (.tickTimerExpiry order) s = .next s ∧ exec (.holdoverLimitReached order) s = .next s) ∧
    (∀ tm, s.pace.timer = some tm → tm.wait ≤ (s.pace.stamp - tm.base).toNat →
      let due := tm.base + BitVec.ofNat 48 tm.wait
      let count := min (s.pace.holdoverCount + 1) 65535
      (s.pace.state = .free → exec (.tickTimerExpiry order) s = .next
        (({ s with pace := { s.pace with
          tickAt := some s.pace.stamp, droppedRun := none
          timer := some { base := due, wait := s.settings.pace.freePeriod } } } : State).tick order)) ∧
      (s.pace.state = .holdover → count < s.settings.pace.holdoverLimit →
        exec (.tickTimerExpiry order) s = .next
          (({ s with pace := { s.pace with
            holdoverCount := count, tickAt := some s.pace.stamp
            timer := some { base := due, wait := s.pace.measured.getD 0 } } } : State).tick order)) ∧
      (s.pace.state = .holdover → s.settings.pace.holdoverLimit ≤ count →
        exec (.holdoverLimitReached order) s = exec (.tickTimerExpiry order) s ∧
        exec (.holdoverLimitReached order) s = .next
          ((({ s with pace := { s.pace with
            holdoverCount := count, state := .free, runCount := 0, runBase := none
            tickAt := some s.pace.stamp, droppedRun := some (s.pace.runCount, s.pace.runBase)
            timer := some { base := due, wait := s.settings.pace.freePeriod } } } : State).setCause .pace).tick
              order)))

/-- A pace tick is taken once by each of the eight blocks that observe it: the blocks the command names in their
order, and the others after them in a fixed one, of which a receiver and the matcher may owe a tick that expires
(log 4, log 5, DESIGN CHOICE). It leaves the Pace Generator, the settings, the straps and the delivery alone. Each
Sample Port keeps the samples no older than the max age. A PARKED reader with no fetch in flight looks again: its
buffer flushed at the cursor and the word there fetched. A WAITING writer in RUNNING reads the consumed word unless
a read is in flight, and in RUNNING and DRAINING a writer not STOPPED makes a status write, counts a skip while one
is in flight, and makes none once the end of DRAINING has been reached, be it before DRAINING_END_REACHED is taken
(log 39, DESIGN CHOICE) or after it, until IDLE (log 31, DESIGN CHOICE). The status serial stays at its largest value
(log 21, DEDUCED). -/
def Obligations.TickReachesEveryBlock : Prop :=
  ∀ (order : List TickObserver) (s : State),
    let r := s.reader
    let w := s.writer
    let rest := leftOut order
    (order.eraseDups ++ rest).Perm [.linkReceiver .left, .linkReceiver .right, .samplePort .leftLens,
      .samplePort .rightLens, .samplePort .rig, .pairMatcher, .cueReader, .resultWriter] ∧
    (order.Nodup → order.eraseDups = order) ∧
    s.tick order = rest.foldl State.observeLater (order.eraseDups.foldl State.observe s) ∧
    (s.tick order).pace = s.pace ∧ (s.tick order).settings = s.settings ∧ (s.tick order).straps = s.straps ∧
    (s.tick order).delivery = s.delivery ∧
    (∀ port : PortId,
      let aged : SamplePort := { s.port port with
        stack := (s.port port).stack.filter fun x =>
          decide ((s.pace.stamp - x.stamp).toNat ≤ s.settings.samples.maxAge) }
      s.observe (.samplePort port) = s.onPort port (fun _ => aged) ∧
      s.observeLater (.samplePort port) = s.observe (.samplePort port) ∧ (s.tick order).port port = aged) ∧
    s.observeLater .cueReader = s.observe .cueReader ∧ s.observeLater .resultWriter = s.observe .resultWriter ∧
    (r.state = .parked → r.fetch = none → s.observe .cueReader = { s with reader := { r with
      buffer := [], sequence := r.sequence + 1, fetchPointer := r.cursor / 8 * 8, skip := r.cursor % 8
      fetch := some { sequence := r.sequence + 1, offset := r.cursor / 8 * 8,
                      address := s.regs.bases.cueBase + BitVec.ofNat 64 (r.cursor / 8 * 8),
                      issued := s.pace.stamp, reLook := true }
      reLooks := Counter.inc r.reLooks } }) ∧
    (r.state = .parked → r.fetch.isSome → s.observe .cueReader = s) ∧
    (r.state ≠ .parked → (∀ n k, r.state ≠ .waiting (.ticks n) k false) → s.observe .cueReader = s) ∧
    (let read : State :=
       if w.state = .waiting ∧ s.regs.run = .running ∧ w.consumedRead = none then
         { s with writer := { w with
             consumedRead := some { address := s.regs.bases.consumedAddress, issued := s.pace.stamp }
             presented := w.presented ++ [.consumedRead] } }
       else s
     let serial := Counter.inc w.statusSerial
     let reports : Prop := (s.regs.run = .running ∨ s.regs.run = .draining) ∧ w.state ≠ .stopped
     let endReached : Prop := w.final ≠ .notReached ∨
       (s.regs.run = .draining ∧ s.regs.drainedStarting = false ∧ s.regs.headerRead = none ∧ r.fetch = none ∧
         w.consumedRead = none ∧ w.recordWrite = none ∧ s.delivery.copy = none ∧ (w.held = [] ∨ w.state = .waiting))
     (¬ reports → s.observe .resultWriter = read) ∧
     (reports → w.statusWrite.isSome → s.observe .resultWriter = { read with
       writer := { read.writer with statusSkipped := Counter.inc w.statusSkipped } }) ∧
     (reports → w.statusWrite = none → ¬ endReached → s.observe .resultWriter = { read with
       writer := { read.writer with
         statusSerial := serial, presented := read.writer.presented ++ [.statusWrite]
         statusWrite := some { address := s.regs.bases.statusBase.toNat,
                               bytes := read.statusBytes serial false } } }) ∧
     (reports → w.statusWrite = none → endReached → s.observe .resultWriter = read))

/-! ### The camera links and frame capture -/

/-- In HUNT the first pattern with a good mark check is the found mark: good in the history, its row number and
position noted, VERIFY; a pattern whose mark check is bad is passed over. In OFF the bytes delivered are discarded,
and the scan that follows begins past them. In VERIFY the first further mark, good, gives the row length; a bad one,
or none within 8,202 bytes of the found mark, returns to HUNT; then each row position must be good, and the third
further mark enters ROW_LOCK. Where the scan goes on after a failure is the model's reading (log 13), that the row
number expected after 4,095 is 0 at every mark too (log 14, DEDUCED), and that HUNT_MARK_FOUND has no effect where
the pattern is not HUNT's found mark is its choice (log 2, DESIGN CHOICE). -/
def Obligations.MarksVerified : Prop :=
  (∀ (e : Eye) (position : Nat) (mark : BitVec 64) (s : State),
    let row := (mark.extractLsb' 32 16).toNat
    let checked := (mark.extractLsb' 48 16).toNat = 65535 - row
    mark.extractLsb' 0 32 = 0x9A6C35E1#32 → row ≤ 4095 →
    ((s.receiver e).sync = .hunt → (s.receiver e).scanFrom ≤ position → checked →
      exec (.huntMarkFound e position mark) s = .next (s.onReceiver e fun r =>
        { r with
          sync := .verify, rowLength := none, history := (true :: r.history).take 8, rowNumber := row,
          boundary := false, foundPosition := position, nextPosition := position, scanFrom := position + 8
          furtherMarks := 0 })) ∧
    ((s.receiver e).sync ≠ .off →
      ¬ checked ∨ (s.receiver e).sync ≠ .hunt ∨ position < (s.receiver e).scanFrom →
      exec (.huntMarkFound e position mark) s = .next s)) ∧
  (∀ (e : Eye) (position : Nat) (mark : BitVec 64) (s : State), (s.receiver e).sync = .off →
    let discarded := s.onReceiver e fun r => { r with scanFrom := max r.scanFrom (position + 8) }
    exec (.huntMarkFound e position mark) s = .next discarded ∧
    exec (.verifyMark e position mark) s = .next discarded) ∧
  ∀ (e : Eye) (position : Nat) (mark : BitVec 64) (s : State),
    let r := s.receiver e
    let row := (mark.extractLsb' 32 16).toNat
    let expected := if r.boundary then 0 else (r.rowNumber + 1) % 4096
    let isPattern := mark.extractLsb' 0 32 = 0x9A6C35E1#32
    let good := isPattern ∧ (mark.extractLsb' 48 16).toNat = 65535 - row ∧ row = expected
    let hunts := fun scan : Nat => s.onReceiver e fun r =>
      { r with
        sync := .hunt, rowLength := none, history := [], silence := 0, scanFrom := scan, furtherMarks := 0 }
    r.sync = .verify →
    (r.rowLength = none → r.foundPosition + 8 ≤ position → position ≤ r.foundPosition + 8202 →
      (good → exec (.verifyMark e position mark) s = .next (s.onReceiver e fun r =>
        { r with
          rowLength := some (position - r.foundPosition), history := (true :: r.history).take 8,
          rowNumber := expected, boundary := false, furtherMarks := 1,
          nextPosition := position + (position - r.foundPosition), scanFrom := position + 8 })) ∧
      (isPattern → ¬ good → exec (.verifyMark e position mark) s = .next (hunts (position + 8))) ∧
      (¬ isPattern → exec (.verifyMark e position mark) s = .next s)) ∧
    (r.rowLength = none → r.foundPosition + 8202 < position →
      exec (.verifyMark e position mark) s = .next (hunts (r.foundPosition + 8203))) ∧
    (∀ length, r.rowLength = some length → position = r.nextPosition → isOpener mark = false →
      (good → r.furtherMarks < 2 → exec (.verifyMark e position mark) s = .next (s.onReceiver e fun r =>
        { r with
          history := (true :: r.history).take 8, rowNumber := expected, boundary := false,
          nextPosition := r.nextPosition + length, scanFrom := r.nextPosition + 8
          furtherMarks := r.furtherMarks + 1 })) ∧
      (good → r.furtherMarks = 2 → exec (.verifyMark e position mark) s = .next (s.onReceiver e fun r =>
        { r with
          sync := .rowLock, silence := 0, history := (true :: r.history).take 8, rowNumber := expected,
          boundary := false, nextPosition := r.nextPosition + length, scanFrom := r.nextPosition + 8
          furtherMarks := 3 })) ∧
      (¬ good → exec (.verifyMark e position mark) s =
        .next (hunts (r.nextPosition + if isPattern then 8 else 4))))

/-- A row position in ROW_LOCK or FRAME_LOCK with no frame filling: judged into the mark history, with the expected row
number and the next position L further on; a bad one with two of the four newest bad loses alignment and enters HUNT,
out of FRAME_LOCK as a departure, with the frame being filled cut, LINK set and the matcher told. In VERIFY the row
position is its mark judged; in HUNT nothing is placed, and in OFF the bytes are discarded. A departure cuts the frame,
its FILLING slot going FREE, and changes the receiver as given. The row number expected after 4,095 is 0 by the model's
choice (log 14); where the scan goes on is its reading (log 13). -/
def Obligations.RowsJudged : Prop :=
  (∀ (e : Eye) (mark : BitVec 64) (body : List Byte) (length : Nat) (s : State),
    let r := s.receiver e
    let row := (mark.extractLsb' 32 16).toNat
    let expected := if r.boundary then 0 else (r.rowNumber + 1) % 4096
    let isPattern := mark.extractLsb' 0 32 = 0x9A6C35E1#32
    let good := decide (isPattern ∧ (mark.extractLsb' 48 16).toNat = 65535 - row ∧ row = expected)
    let history := (good :: r.history).take 8
    let lost := good = false ∧ 2 ≤ (history.take 4).count false
    let hunting := fun r : Receiver => { r with
      sync := .hunt, rowLength := none, history := [], silence := 0, furtherMarks := 0
      scanFrom := (s.receiver e).nextPosition + if isPattern then 8 else 4 }
    r.rowLength = some length → body.length + 8 = length → isOpener mark = false →
    (r.sync = .rowLock ∨ r.sync = .frameLock → ¬ lost → r.filling = none →
      exec (.rowPosition e mark body) s = .next (s.onReceiver e fun r =>
        { r with
          history := history, rowNumber := expected, boundary := false, nextPosition := r.nextPosition + length
          scanFrom := r.nextPosition + length })) ∧
    (lost → r.sync = .rowLock → exec (.rowPosition e mark body) s = .next (s.onReceiver e hunting)) ∧
    (lost → r.sync = .frameLock → exec (.rowPosition e mark body) s = .next (s.departs e hunting)) ∧
    (r.sync = .verify → exec (.rowPosition e mark body) s = exec (.verifyMark e r.nextPosition mark) s)) ∧
  (∀ (e : Eye) (mark : BitVec 64) (body : List Byte) (s : State),
    ((s.receiver e).sync = .hunt → exec (.rowPosition e mark body) s = .next s) ∧
    ((s.receiver e).sync = .off → exec (.rowPosition e mark body) s = .next (s.onReceiver e fun r =>
      { r with scanFrom := max r.scanFrom r.nextPosition + (body.length + 8) }))) ∧
  ∀ (e : Eye) (after : Receiver → Receiver) (s : State),
    let r := s.receiver e
    let t := s.departs e after
    OnlyCapture e s t ∧ t.regs.cause &&& 0x008#9 = 0x008#9 ∧
    t.receiver e = after { r with
      filling := none
      counters := { r.counters with
        cuts := if r.filling.isSome then Counter.inc r.counters.cuts else r.counters.cuts } } ∧
    (∀ f, r.filling = some f → (s.store.slot f.slot).isFilling = true → t.store.slot f.slot = .free)

/-- A row of a filling frame: below the height it is written to its slot at its row index, every other byte of slot
memory staying, counted as damaged where its mark or its row check is bad, and profiled where its output row is named;
at or above the height it is counted alone. The rows named are the LEFT probe rows, and the RIGHT rows within the
search half-range of a probe, where measurement is enabled; a profile is the 32 band means in output orientation. The
row check is good where its field, the last two bytes, is the sum modulo 65,536 of the row data as 16-bit words
(R1). -/
def Obligations.RowStored : Prop :=
  (∀ (e : Eye) (mark : BitVec 64) (body : List Byte) (length : Nat) (f : Filling) (frame : FrameRecord) (s : State),
    let r := s.receiver e
    let good := r.judge mark
    let data := body.take (body.length - 2)
    let address := f.slot * 16777216 + f.rowsReceived * f.format.rowBytes
    let damaged := !good || !rowCheckGood body
    let output := f.orientation.row f.format.height f.rowsReceived
    let placed : Receiver := { r with
      history := (good :: r.history).take 8, rowNumber := r.expectedRow, boundary := false
      nextPosition := r.nextPosition + length, scanFrom := r.nextPosition + length
      filling := some { f with
        rowsReceived := f.rowsReceived + 1
        frameCheck := f.frameCheck + (wordSum data).setWidth 32 } }
    r.sync = .frameLock → r.rowLength = some length → body.length + 8 = length → isOpener mark = false →
    good = true ∨ lostAlignment ((good :: r.history).take 8) = false → r.filling = some f →
    s.store.slot f.slot = .filling frame → Memory.wf s.store.mem = true →
    (f.rowsReceived < f.format.height →
      ∃ t : State, exec (.rowPosition e mark body) s = .next t ∧ Memory.wf t.store.mem = true ∧
        (∀ i < data.length, Memory.read t.store.mem (address + i) = data.getD i 0#8) ∧
        (∀ a, a < address ∨ address + data.length ≤ a → Memory.read t.store.mem a = Memory.read s.store.mem a) ∧
        t.store.slot f.slot = .filling { frame with
          damagedRows := if damaged then frame.damagedRows + 1 else frame.damagedRows
          profiles := if output ∈ f.profileRows then
              frame.profiles ++ [{ row := output, samples := profileSamples f.format f.orientation data,
                                   damaged := damaged }]
            else frame.profiles } ∧
        (∀ n, n ≠ f.slot → t.store.slot n = s.store.slot n) ∧
        t = { (s.onReceiver e fun _ => { placed with
                counters := { r.counters with
                  damagedRows := if damaged then Counter.inc r.counters.damagedRows
                    else r.counters.damagedRows } }) with
              store := { s.store with slots := t.store.slots, mem := t.store.mem } }) ∧
    (f.format.height ≤ f.rowsReceived → exec (.rowPosition e mark body) s = .next (s.onReceiver e fun _ => placed))) ∧
  (∀ body : List Byte, body.length % 2 = 0 → 2 ≤ body.length →
    let word := fun i : Nat => (byteAt body (2 * i)).toNat + 256 * (byteAt body (2 * i + 1)).toNat
    let words := body.length / 2 - 1
    (wordSum (body.take (body.length - 2))).toNat = ((List.range words).map word).sum % 65536 ∧
    (rowCheckGood body = true ↔ word words = ((List.range words).map word).sum % 65536)) ∧
  (∀ (o : Orientation) (height i : Nat),
    o.row height i = if o = .flipRows ∨ o = .rotate180 then height - 1 - i else i) ∧
  (∀ (p : ProbeSetting) (height x : Nat),
    let enabled : Prop := 2 ≤ p.rows.length ∧ 1 ≤ p.range
    (x ∈ profiledRows p height .left ↔ enabled ∧ x ∈ p.rows ∧ x < height) ∧
    (x ∈ profiledRows p height .right ↔ enabled ∧ x < height ∧ ∃ q ∈ p.rows, q ≤ x + p.range ∧ x ≤ q + p.range)) ∧
  ∀ (f : FormatSetting) (o : Orientation) (data : List Byte),
    let pixels := unpack f.depth data
    let band := f.width / 32
    (profileSamples f o data).length = 32 ∧
    ∀ i < 32, (profileSamples f o data)[i]? =
      some ((((pixels.drop ((if o = .flipColumns ∨ o = .rotate180 then 31 - i else i) * band)).take band).sum) / band)

/-- A Frame Head with a bad head check is counted: in ROW_LOCK it is skipped, and in FRAME_LOCK the receiver enters
ROW_LOCK as a departure, a frame being filled cut, LINK set and the matcher told. A good one in ROW_LOCK enters
FRAME_LOCK, with the silence count 0, no expectation, LINK set, the matcher's pass and a waiting reader told, and is
then a frame arrival; in FRAME_LOCK it first completes a filling frame, TAIL_MISSING and without a frame check, its
missing rows counted, its slot QUEUED at the tail of its eye's queue and the matcher's pass made (before the head's own
claim: log 35, and with no departure of the link before the join: log 38, DESIGN CHOICE). In VERIFY it is skipped, but that the next expected row number is 0 after it is log 23
(DEDUCED); where no unit is placed it has no effect, and in OFF the bytes are discarded (log 13, DEDUCED). The head
check is good where its field is the sum modulo 65,536 of the 11 words before it (R1). -/
def Obligations.HeadsJudged : Prop :=
  (∀ head : BitVec 192, headCheckGood head = true ↔
    (head.extractLsb' 176 16).toNat =
      ((List.range 11).map fun i => (head.extractLsb' (16 * i) 16).toNat).sum % 65536) ∧
  (∀ (e : Eye) (head : BitVec 192) (length : Nat) (s : State),
    let r := s.receiver e
    let counted : Receiver := { r with
      nextPosition := r.nextPosition + 24, scanFrom := r.nextPosition + 24, boundary := true
      counters := { r.counters with headDamaged := Counter.inc r.counters.headDamaged } }
    head.extractLsb' 0 32 = 0xC3A5F01E#32 → headCheckGood head = false → r.rowLength = some length →
    (r.sync = .rowLock → exec (.frameHead e head) s = .next (s.onReceiver e fun _ => counted)) ∧
    (r.sync = .frameLock → exec (.frameHead e head) s =
      .next (State.departs (s.onReceiver e fun _ => counted) e fun r => { r with sync := .rowLock, silence := 0 }))) ∧
  (∀ (e : Eye) (head : BitVec 192) (length : Nat) (s : State),
    let r := s.receiver e
    let entered : State := (s.onReceiver e fun _ => { r with
      sync := .frameLock, silence := 0, expectation := none, boundary := true
      nextPosition := r.nextPosition + 24, scanFrom := r.nextPosition + 24 }).setCause .link
    let told : State := { entered.pass with
      reader := entered.pass.reader.reportLock ((s.receiver (otherEye e)).sync == .frameLock) }
    head.extractLsb' 0 32 = 0xC3A5F01E#32 → headCheckGood head = true → r.sync = .rowLock →
    r.rowLength = some length → exec (.frameHead e head) s = .next (told.arrival e head)) ∧
  (∀ (e : Eye) (head : BitVec 192) (length : Nat) (f : Filling) (s : State),
    let r := s.receiver e
    let passed : Receiver := { r with
      nextPosition := r.nextPosition + 24, scanFrom := r.nextPosition + 24, boundary := true, silence := 0 }
    head.extractLsb' 0 32 = 0xC3A5F01E#32 → headCheckGood head = true → r.sync = .frameLock →
    r.rowLength = some length → r.filling = some f →
    exec (.frameHead e head) s =
      .next ((State.completeFrame (s.onReceiver e fun _ => passed) e f none).arrival e head) ∧
    ∀ frame : FrameRecord, s.store.slot f.slot = .filling frame →
      let missing := f.format.height - f.rowsReceived
      let completed : FrameRecord := { frame with
        damagedRows := frame.damagedRows + missing
        flaws := { tailMissing := true, rowCount := decide (f.rowsReceived ≠ f.format.height), frameCheck := false } }
      exec (.frameHead e head) s = .next (State.arrival (State.dispose
        { (s.onReceiver e fun _ => { passed with
            filling := none
            counters := { r.counters with
              damagedRows := Counter.add r.counters.damagedRows missing
              flawed := Counter.inc r.counters.flawed } }) with
          store := ({ s.store with slots := s.store.slots.set f.slot (.queued completed) } : FrameStore).onQueue e
            (· ++ [f.slot]) }) e head)) ∧
  ∀ (e : Eye) (head : BitVec 192) (s : State),
    let r := s.receiver e
    (r.sync ≠ .off → r.rowLength = none ∨ r.sync = .hunt → exec (.frameHead e head) s = .next s) ∧
    (r.sync = .off → exec (.frameHead e head) s = .next (s.onReceiver e fun r =>
      { r with scanFrom := max r.scanFrom r.nextPosition + 24 })) ∧
    (head.extractLsb' 0 32 = 0xC3A5F01E#32 → r.sync = .verify → r.rowLength.isSome →
      exec (.frameHead e head) s = .next (s.onReceiver e fun r =>
        { r with nextPosition := r.nextPosition + 24, scanFrom := r.nextPosition + 24, boundary := true }))

/-- A frame arrival in FRAME_LOCK with no frame filling: the expectation set and the count gap counted, then refused as
a MISMATCH, or as a slip where the queue holds 8 or no slot is FREE, or granted a slot that becomes FILLING with its
frame record. Which FREE slot is the model's choice (log 12). -/
def Obligations.FrameArrivals : Prop :=
  ∀ (e : Eye) (head : BitVec 192) (length : Nat) (s : State),
    let r := s.receiver e
    let count := head.extractLsb' 32 16
    let latency := (head.extractLsb' 48 16).toNat
    let gap := r.expectation.map fun x => count - x
    let format := s.settings.format
    let agrees := (head.extractLsb' 64 16).toNat = format.width ∧ (head.extractLsb' 80 16).toNat = format.height ∧
      (head.extractLsb' 96 8).toNat = format.depth.bits ∧ length = format.width * format.depth.bits / 8 + 10
    let frame : FrameRecord :=
      { eye := e, frameCount := count, countGap := gap, damagedRows := 0, flaws := ⟨false, false, false⟩,
        captureStamp := if latency ≤ s.pace.stamp.toNat then BitVec.ofNat 48 (s.pace.stamp.toNat - latency)
          else 0#48,
        profiles := [] }
    let counters := { r.counters with
      countGaps := Counter.add r.counters.countGaps ((gap.map BitVec.toNat).getD 0) }
    let taken : Receiver := { r with
      nextPosition := r.nextPosition + 24, scanFrom := r.nextPosition + 24, boundary := true, silence := 0
      expectation := some (count + 1#16), counters := counters }
    head.extractLsb' 0 32 = 0xC3A5F01E#32 → headCheckGood head = true → r.sync = .frameLock →
    r.rowLength = some length → r.filling = none →
    (¬ agrees → exec (.frameHead e head) s = .next (s.onReceiver e fun _ =>
      { taken with counters := { counters with mismatches := Counter.inc r.counters.mismatches } })) ∧
    (agrees → 8 ≤ (s.store.queue e).length ∨ (∀ x ∈ s.store.slots, x.isFree = false) →
      exec (.frameHead e head) s = .next ((s.onReceiver e fun _ =>
        { taken with counters := { counters with slips := Counter.inc r.counters.slips } }).setCause .slip)) ∧
    (∀ n, agrees → (s.store.queue e).length < 8 → s.store.slots.findIdx? Slot.isFree = some n →
      let filling : Filling :=
        { slot := n, rowsReceived := 0, frameCheck := 0#32, format := format,
          profileRows := profiledRows s.settings.probes format.height e, orientation := s.settings.orient e }
      exec (.frameHead e head) s = .next (State.closeCheck
        { (s.onReceiver e fun _ => { taken with filling := some filling }) with
          store := { s.store with slots := s.store.slots.set n (.filling frame) } }))

/-- A Frame Tail completes a filling frame: its flaws, its missing rows, the slot QUEUED at the tail of its eye's
queue, the matcher's pass, in one act, with no departure of the link before the join (log 38, DESIGN CHOICE); with none
filling, and outside FRAME_LOCK, it is skipped. A Fill unit is skipped, and leaves
the expected row number. Where no unit is placed they have no effect, and in OFF the bytes are discarded (log 13,
DEDUCED). That a tail or a head skipped in VERIFY sets the next expected row number to 0 is read from R6 (log 23,
DEDUCED). -/
def Obligations.UnitsAtFrameEnd : Prop :=
  (∀ (e : Eye) (tail : BitVec 128) (fill : BitVec 64) (s : State),
    let r := s.receiver e
    (r.sync ≠ .off → r.rowLength = none ∨ r.sync = .hunt →
      exec (.frameTail e tail) s = .next s ∧ exec (.fillUnit e fill) s = .next s) ∧
    (r.sync = .off →
      exec (.frameTail e tail) s =
        .next (s.onReceiver e fun r => { r with scanFrom := max r.scanFrom r.nextPosition + 16 }) ∧
      exec (.fillUnit e fill) s =
        .next (s.onReceiver e fun r => { r with scanFrom := max r.scanFrom r.nextPosition + 8 }))) ∧
  ∀ (e : Eye) (tail : BitVec 128) (fill : BitVec 64) (length : Nat) (s : State),
    let r := s.receiver e
    let passed : Receiver := { r with
      nextPosition := r.nextPosition + 16, scanFrom := r.nextPosition + 16, boundary := true }
    r.rowLength = some length → r.sync = .verify ∨ r.sync = .rowLock ∨ r.sync = .frameLock →
    (tail.extractLsb' 0 32 = 0xC3A5F02D#32 → r.sync ≠ .frameLock ∨ r.filling = none →
      exec (.frameTail e tail) s = .next (s.onReceiver e fun _ => passed)) ∧
    (∀ (f : Filling) (frame : FrameRecord),
      let missing := f.format.height - f.rowsReceived
      let flaws : Flaws :=
        { tailMissing := false
          rowCount := decide ((tail.extractLsb' 32 16).toNat ≠ f.format.height ∨ f.rowsReceived ≠ f.format.height)
          frameCheck := decide (tail.extractLsb' 64 32 ≠ f.frameCheck) }
      tail.extractLsb' 0 32 = 0xC3A5F02D#32 → r.sync = .frameLock → r.filling = some f →
      s.store.slot f.slot = .filling frame →
      let counters : LinkCounters := { r.counters with
        damagedRows := Counter.add r.counters.damagedRows missing
        flawed := if flaws.rowCount || flaws.frameCheck then Counter.inc r.counters.flawed else r.counters.flawed }
      let completed : FrameRecord := { frame with damagedRows := frame.damagedRows + missing, flaws := flaws }
      exec (.frameTail e tail) s = .next (State.dispose
        { (s.onReceiver e fun _ => { passed with filling := none, counters := counters }) with
          store := ({ s.store with slots := s.store.slots.set f.slot (.queued completed) } : FrameStore).onQueue e
            (· ++ [f.slot]) })) ∧
    (fill.extractLsb' 0 32 = 0xC3A5F03C#32 → exec (.fillUnit e fill) s = .next (s.onReceiver e fun r =>
      { r with nextPosition := r.nextPosition + 8, scanFrom := r.nextPosition + 8 }))

/-- The pace tick that takes the silence count to 2: FRAME_LOCK moves to ROW_LOCK as a departure, a frame being filled
cut, LINK set and the matcher told, and ROW_LOCK moves to HUNT, the scan going on at the first byte not yet examined; a
tick below 2 increases the count, and in OFF, HUNT and VERIFY it has no effect. SILENCE_EXPIRY takes a tick the receiver
owes. A receiver named in the tick's order takes it so at once; one left out owes a tick that would reach 2, until its
own command (log 5, DESIGN CHOICE). Any owed tick comes before the next. -/
def Obligations.SilenceExpires : Prop :=
  ∀ (e : Eye) (s : State),
    let r := s.receiver e
    let locked : Prop := r.sync = .rowLock ∨ r.sync = .frameLock
    (r.tickOwed = true → 1 ≤ r.silence → r.sync = .rowLock →
      exec (.silenceExpiry e) s = .next (s.onReceiver e fun r =>
        { r with
          tickOwed := false, sync := .hunt, rowLength := none, history := [], silence := 0, furtherMarks := 0 })) ∧
    (r.tickOwed = true → 1 ≤ r.silence → r.sync = .frameLock →
      exec (.silenceExpiry e) s = .next (State.departs (s.onReceiver e fun r => { r with tickOwed := false }) e
        fun r => { r with sync := .rowLock, silence := 0 })) ∧
    (r.tickOwed = true → r.silence = 0 → locked →
      exec (.silenceExpiry e) s = .next (s.onReceiver e fun r => { r with tickOwed := false, silence := 1 })) ∧
    (r.tickOwed = true → ¬ locked →
      exec (.silenceExpiry e) s = .next (s.onReceiver e fun r => { r with tickOwed := false })) ∧
    (r.tickOwed = false → exec (.silenceExpiry e) s = .next s) ∧
    (r.tickOwed = false →
      exec (.silenceExpiry e) (s.onReceiver e fun r => { r with tickOwed := true }) =
        .next (s.observe (.linkReceiver e))) ∧
    (r.tickOwed = false → r.silence = 0 ∨ ¬ locked →
      s.observeLater (.linkReceiver e) = s.observe (.linkReceiver e)) ∧
    (r.tickOwed = false → 1 ≤ r.silence → locked →
      s.observeLater (.linkReceiver e) = s.onReceiver e fun r => { r with tickOwed := true }) ∧
    (∀ u : State, exec (.silenceExpiry e) s = .next u →
      s.observe (.linkReceiver e) = u.observe (.linkReceiver e) ∧
      s.observeLater (.linkReceiver e) = u.observeLater (.linkReceiver e))

/-! ### Pair matching and takes -/

/-- Two heads, neither expired, whose skew lies within the pair window form a PAIR entry where the table has room, in
one act: both slots HELD, the next unit number, the fields of their frame records, membership by the LEFT capture
stamp, the samples, the dropped-since count for a member, MEASURING, and the skew tracker updated with the pair's skew,
with its alarm and the SKEW cause; without room the pass ends. -/
def Obligations.PairsFormed : Prop :=
  ∀ (l r : Nat × FrameRecord) (s : State),
    let d : Int := (l.2.captureStamp.toNat : Int) - r.2.captureStamp.toNat
    let m := s.matcher
    let member := m.member l.2.captureStamp
    let entry : Entry :=
      { unit := m.nextUnit, kind := .pair d
        left := some { slot := l.1, captureStamp := l.2.captureStamp, frameCount := l.2.frameCount,
                       countGap := l.2.countGap }
        right := some { slot := r.1, captureStamp := r.2.captureStamp, frameCount := r.2.frameCount,
                        countGap := r.2.countGap }
        takeNumber := if member then some m.takeNumber else none
        leftLens := s.leftLens.select s.settings.samples l.2.captureStamp
        rightLens := s.rightLens.select s.settings.samples r.2.captureStamp
        rig := s.rig.select s.settings.samples l.2.captureStamp
        measurement := none, applied := none
        droppedSince := if member then some m.droppedSince else none
        disposition := if member then .deliver else .release
        state := .measuring }
    s.head .left = some l → s.head .right = some r → m.leftMark.expired = false → m.rightMark.expired = false →
    -(s.settings.matching.window : Int) ≤ d → d ≤ s.settings.matching.window →
    let formed : State := { s with
      store := { s.store with
        slots := (s.store.slots.set l.1 (.held l.2)).set r.1 (.held r.2)
        leftQueue := s.store.leftQueue.tail, rightQueue := s.store.rightQueue.tail }
      matcher := { m with
        table := m.table ++ [entry], nextUnit := m.nextUnit + 1#32, leftMark := ⟨0, false⟩, rightMark := ⟨0, false⟩
        droppedSince := if member then 0 else m.droppedSince, pairsFormed := Counter.inc m.pairsFormed }
      align := { s.align with looking := true } }
    let skew := if m.state = .acquire then d else m.skew + (d - m.skew).tdiv 8
    let limit := s.settings.matching.skewLimit
    let fires : Prop := m.alarm = .armed ∧ limit < skew.natAbs
    (6 ≤ m.table.length → s.examine = none) ∧
    (m.table.length < 6 → ∃ t : State, s.examine = some t ∧ t = formed.updateSkew d ∧ t.matcher.skew = skew ∧
      (fires → t.matcher.alarm = .fired ∧ t.regs.cause = s.regs.cause ||| 0x020#9) ∧
      (¬ fires → t.regs = s.regs ∧ t.matcher.alarm =
        if m.alarm = .fired ∧ limit * 3 < skew.natAbs * 4 then .fired else .armed) ∧
      t.store.slots = (s.store.slots.set l.1 (.held l.2)).set r.1 (.held r.2) ∧
      t.store.leftQueue = s.store.leftQueue.tail ∧ t.store.rightQueue = s.store.rightQueue.tail ∧
      t.store.mem = s.store.mem ∧ t.store.flushed = s.store.flushed ∧
      t.matcher.table = m.table ++ [entry] ∧ t.matcher.nextUnit = m.nextUnit + 1#32 ∧
      t.matcher.leftMark = ⟨0, false⟩ ∧ t.matcher.rightMark = ⟨0, false⟩ ∧ t.matcher.state = .tracking ∧
      t.matcher.droppedSince = (if member then 0 else m.droppedSince) ∧
      t.matcher.pairsFormed = Counter.inc m.pairsFormed ∧ t.matcher.take = m.take ∧
      t.matcher.takeRecords = m.takeRecords ∧ t.align = { s.align with looking := true } ∧
      t.left = s.left ∧ t.right = s.right ∧ t.settings = s.settings ∧ t.leftLens = s.leftLens ∧
      t.rightLens = s.rightLens ∧ t.rig = s.rig ∧ t.delivery = s.delivery ∧ t.writer = s.writer ∧
      t.reader = s.reader ∧ t.pace = s.pace)

/-- A head declared an orphan: outside the take or under DROP it is released at once and counted as dropped; inside it
under SINGLE or DOUBLE it forms a READY ORPHAN entry where the table has room, and otherwise waits. -/
def Obligations.OrphansDisposed : Prop :=
  ∀ (e : Eye) (n : Nat) (f : FrameRecord) (s : State),
    let m := s.matcher
    let inside := m.member f.captureStamp
    let lens := (s.port (lensPort e)).select s.settings.samples f.captureStamp
    let eye : EntryEye :=
      { slot := n, captureStamp := f.captureStamp, frameCount := f.frameCount, countGap := f.countGap }
    let entry : Entry :=
      { unit := m.nextUnit, kind := .orphan e (s.settings.matching.policy == .double)
        left := if e = .left then some eye else none, right := if e = .right then some eye else none
        takeNumber := some m.takeNumber
        leftLens := if e = .left then lens else none, rightLens := if e = .right then lens else none
        rig := s.rig.select s.settings.samples f.captureStamp
        measurement := none, applied := some s.align.offset, droppedSince := some m.droppedSince
        disposition := .deliver, state := .ready }
    (inside = false ∨ s.settings.matching.policy = .drop →
      s.disposeOrphan e (n, f) = some { s with
        store := ({ s.store with slots := s.store.slots.set n .free } : FrameStore).onQueue e List.tail
        matcher := { m.setMark e ⟨0, false⟩ with
          droppedSince := min (m.droppedSince + 1) 65535
          orphansDropped := Counter.inc m.orphansDropped } }) ∧
    (inside = true → s.settings.matching.policy ≠ .drop → m.table.length < 6 →
      s.disposeOrphan e (n, f) = some { s with
        store := ({ s.store with slots := s.store.slots.set n (.held f) } : FrameStore).onQueue e List.tail
        matcher := { m.setMark e ⟨0, false⟩ with
          table := m.table ++ [entry], nextUnit := m.nextUnit + 1#32, droppedSince := 0
          orphansFormed := Counter.inc m.orphansFormed } }) ∧
    (inside = true → s.settings.matching.policy ≠ .drop → 6 ≤ m.table.length → s.disposeOrphan e (n, f) = none)

/-- Which head of two the matcher disposes of: by the pair window the earlier one, the expired one whatever the skew,
and a lone head at once where the other link is not in FRAME_LOCK; a lone head waits for a link in FRAME_LOCK, whether
or not its own link is (R54; R56's third row says otherwise of one case: log 38, DESIGN CHOICE). LEFT
first where both heads are expired is the model's choice (log 32, DESIGN CHOICE). A disposal pass takes these acts one
after another, each with the close check of its disposal, until the heads call for none; a STOPPED matcher makes
none. -/
def Obligations.HeadsExamined : Prop :=
  (∀ (l r : Nat × FrameRecord) (s : State),
    let d : Int := (l.2.captureStamp.toNat : Int) - r.2.captureStamp.toNat
    let w : Int := s.settings.matching.window
    let m := s.matcher
    (s.head .left = some l → s.head .right = some r → m.leftMark.expired = false → m.rightMark.expired = false →
      (d < -w → s.examine = s.disposeOrphan .left l) ∧ (w < d → s.examine = s.disposeOrphan .right r)) ∧
    (s.head .left = some l → s.head .right = some r → m.leftMark.expired = true →
      s.examine = s.disposeOrphan .left l) ∧
    (s.head .left = some l → s.head .right = some r → m.leftMark.expired = false → m.rightMark.expired = true →
      s.examine = s.disposeOrphan .right r) ∧
    (s.head .left = some l → s.head .right = none →
      (s.right.sync = .frameLock → m.leftMark.expired = false → s.examine = none) ∧
      (s.right.sync ≠ .frameLock ∨ m.leftMark.expired = true → s.examine = s.disposeOrphan .left l)) ∧
    (s.head .left = none → s.head .right = some r →
      (s.left.sync = .frameLock → m.rightMark.expired = false → s.examine = none) ∧
      (s.left.sync ≠ .frameLock ∨ m.rightMark.expired = true → s.examine = s.disposeOrphan .right r)) ∧
    (s.head .left = none → s.head .right = none → s.examine = none)) ∧
  ∀ s : State,
    (s.matcher.state = .stopped → s.pass = s) ∧
    (s.examine = none → s.pass = s) ∧
    (∀ u, s.matcher.state ≠ .stopped → s.examine = some u → s.pass = u.closeCheck.pass) ∧
    (s.matcher.state ≠ .stopped → s.pass.examine = none)

/-- Membership of the current take: an entry stamp at or after the open stamp, and at or before the close stamp once the
take is CLOSING, compared as plain numbers; none in CLOSED. A PAIR is judged by its LEFT capture stamp at its
formation, an orphan by its own at its disposal: outside the take it is released, and its entry bears the take's
number. -/
def Obligations.TakeMembership : Prop :=
  (∀ (c : Stamp) (m : PairMatcher),
    (m.take = .closed → m.member c = false) ∧
    (m.take = .opened → (m.member c = true ↔ m.openStamp.toNat ≤ c.toNat)) ∧
    (∀ close, m.take = .closing → m.closeStamp = some close →
      (m.member c = true ↔ m.openStamp.toNat ≤ c.toNat ∧ c.toNat ≤ close.toNat))) ∧
  (∀ (e : Eye) (h : Nat × FrameRecord) (s : State),
    (s.matcher.member h.2.captureStamp = false → s.disposeOrphan e h = some (s.releaseOrphan e h)) ∧
    (s.orphanEntry e h).takeNumber = some s.matcher.takeNumber) ∧
  ∀ (l r : Nat × FrameRecord) (s : State),
    ((s.pairEntry l r).takeNumber.isSome = true ↔ s.matcher.member l.2.captureStamp = true) ∧
    ((s.pairEntry l r).disposition = .deliver ↔ s.matcher.member l.2.captureStamp = true)

/-- The skew tracker: seeded in ACQUIRE, increased by the difference over 8 truncated toward zero in TRACKING; the
alarm fires, with the SKEW cause, where the magnitude exceeds the limit while ARMED, and is armed again where it has
fallen to 3/4 of the limit. -/
def Obligations.SkewTracked : Prop :=
  ∀ (d : Int) (s : State),
    let m := s.matcher
    let limit := s.settings.matching.skewLimit
    let x := if m.state = .acquire then d else m.skew + (d - m.skew).tdiv 8
    ∃ t : State, s.updateSkew d = t ∧ t.matcher = { m with state := .tracking, skew := x, alarm := t.matcher.alarm } ∧
      (m.alarm = .armed → limit < x.natAbs →
        t.matcher.alarm = .fired ∧ t.regs.cause = s.regs.cause ||| 0x020#9) ∧
      (m.alarm = .armed → x.natAbs ≤ limit → t.matcher.alarm = .armed ∧ t.regs = s.regs) ∧
      (m.alarm = .fired → x.natAbs * 4 ≤ limit * 3 → t.matcher.alarm = .armed ∧ t.regs = s.regs) ∧
      (m.alarm = .fired → limit * 3 < x.natAbs * 4 → t.matcher.alarm = .fired ∧ t.regs = s.regs) ∧
      t.store = s.store ∧ t.align = s.align ∧ t.left = s.left ∧ t.right = s.right ∧ t.settings = s.settings ∧
      t.writer = s.writer ∧ t.delivery = s.delivery ∧ t.reader = s.reader ∧ t.pace = s.pace

/-- The pace tick that expires a waiting head: the waiting heads' counts increased, a count that has reached the
partner wait expired, and the pass and the close check of that tick made. PARTNER_WAIT_EXPIRY takes a tick the matcher
owes. A matcher named in the tick's order takes every tick so at once; left out, it owes one that would expire a head or
complete the take close, until its own command, and takes any other at once (log 5, DESIGN CHOICE). Any owed tick comes
before the next; a STOPPED matcher takes none. -/
def Obligations.PartnerWaitExpires : Prop :=
  ∀ s : State,
    let waiting := fun e : Eye => (s.head e).isSome ∧ (s.matcher.mark e).expired = false ∧
      s.store.queue (otherEye e) = [] ∧ (s.receiver (otherEye e)).sync = .frameLock
    let expires := fun e : Eye => waiting e ∧ s.settings.matching.partnerWait ≤ (s.matcher.mark e).count + 1
    (s.matcher.state ≠ .stopped →
      ∃ u : State,
        u = { s with matcher := { s.matcher with
          tickOwed := false, leftMark := u.matcher.leftMark, rightMark := u.matcher.rightMark } } ∧
        (∀ e : Eye,
          (waiting e → u.matcher.mark e = ⟨(s.matcher.mark e).count + 1,
            decide (s.settings.matching.partnerWait ≤ (s.matcher.mark e).count + 1)⟩) ∧
          (¬ waiting e → u.matcher.mark e = s.matcher.mark e)) ∧
        let taken := u.pass.closeCheck
        let closes : Prop := s.matcher.take = .closing ∧ taken.matcher.take = .closed
        (s.matcher.tickOwed = true → exec .partnerWaitExpiry s = .next taken) ∧
        (s.matcher.tickOwed = false → exec .partnerWaitExpiry s = .next s) ∧
        (s.matcher.tickOwed = false → s.observe .pairMatcher = taken) ∧
        (s.matcher.tickOwed = false → expires .left ∨ expires .right ∨ closes →
          s.observeLater .pairMatcher = { s with matcher := { s.matcher with tickOwed := true } }) ∧
        (s.matcher.tickOwed = false → ¬ expires .left → ¬ expires .right → ¬ closes →
          s.observeLater .pairMatcher = taken) ∧
        (s.matcher.tickOwed = true →
          s.observe .pairMatcher = taken.observe .pairMatcher ∧
          s.observeLater .pairMatcher = taken.observeLater .pairMatcher)) ∧
    (s.matcher.state = .stopped →
      exec .partnerWaitExpiry s = .next s ∧ s.observe .pairMatcher = s ∧ s.observeLater .pairMatcher = s)

/-- The close check: in CLOSING and not in STOPPED, with no slot holding a capture stamp at or before the close stamp, no
delivery in flight and a place to reserve, it completes the close: the TAKE CLOSED record is placed, the take is CLOSED
and the reader is told; with any of these not so, it changes nothing. TAKE_CLOSE_COMPLETION takes the tick the matcher
owes where the close check of that tick completes the close, and has no effect elsewhere, since every other check
completes it in the act that calls for it (log 6, DESIGN CHOICE). -/
def Obligations.TakeCloses : Prop :=
  let conditions := fun (close : Stamp) (s : State) =>
    s.matcher.state ≠ .stopped ∧ s.matcher.take = .closing ∧ s.matcher.closeStamp = some close ∧
    (∀ x ∈ s.store.slots, ∀ f, x.frame = some f → close.toNat < f.captureStamp.toNat) ∧
    s.delivery.copy = none ∧ s.writer.held.length + s.writer.reserved < 8
  let closes := fun (close : Stamp) (s t : State) =>
    let m := s.matcher
    t.matcher = { m with take := .closed } ∧
    t.writer = (s.place (.takeClosed m.takeNumber m.openStamp close m.takeRecords)).writer ∧
    t.writer.held = s.writer.held ++ [.takeClosed m.takeNumber m.openStamp close m.takeRecords] ∧
    t.writer.reserved = s.writer.reserved ∧ t.writer.nextSerial = s.writer.nextSerial ∧
    t.reader = s.reader.reportClosed ∧ t.store = s.store ∧ t.left = s.left ∧ t.right = s.right ∧
    t.regs = s.regs ∧ t.settings = s.settings ∧ t.align = s.align ∧ t.delivery = s.delivery ∧ t.pace = s.pace ∧
    t.carried = s.carried ∧ t.leftLens = s.leftLens ∧ t.rightLens = s.rightLens ∧ t.rig = s.rig
  ∀ (close : Stamp) (s : State),
    (conditions close s → closes close s s.closeCheck) ∧
    (s.matcher.closeStamp = some close → ¬ conditions close s → s.closeCheck = s) ∧
    (s.matcher.tickOwed = false ∨ s.matcher.state = .stopped ∨ s.matcher.take ≠ .closing →
      exec .takeCloseCompletion s = .next s) ∧
    (s.matcher.tickOwed = true → s.matcher.state ≠ .stopped → s.matcher.take = .closing →
      let passed := (State.advanceWaits { s with matcher := { s.matcher with tickOwed := false } }).pass
      (conditions close passed → ∃ t : State, exec .takeCloseCompletion s = .next t ∧ closes close passed t) ∧
      (passed.matcher.take = .closed → exec .takeCloseCompletion s = .next passed) ∧
      (passed.matcher.take ≠ .closed → passed.matcher.closeStamp = some close → ¬ conditions close passed →
        exec .takeCloseCompletion s = .next s))

/-! ### Lens and rig samples -/

/-- Characters on a port in RUNNING: a start byte begins a message with its stamp; characters are appended up to the
tenth; a framing error or the deadline discards the message and counts it as bad; other characters in AWAITING, and
every character outside RUNNING, are discarded uncounted. That the character which ends a message may come as either
command is the model's reading (log 8, DEDUCED). -/
def Obligations.CharactersTaken : Prop :=
  ∀ (port : PortId) (char : Byte) (framing : Bool) (s : State),
    let p := s.port port
    (s.regs.run ≠ .running → exec (.sampleCharacter port char framing) s = .next s) ∧
    (s.regs.run = .running → p.reception = .awaiting → char = 0x7E#8 → framing = false →
      exec (.sampleCharacter port char framing) s =
        .next (s.onPort port fun p => { p with reception := .collecting s.pace.stamp [char] })) ∧
    (s.regs.run = .running → p.reception = .awaiting → char ≠ 0x7E#8 ∨ framing = true →
      exec (.sampleCharacter port char framing) s = .next s) ∧
    (∀ start bytes, s.regs.run = .running → p.reception = .collecting start bytes →
      (framing = false → bytes.length ≤ 9 → exec (.sampleCharacter port char framing) s =
        .next (s.onPort port fun p => { p with reception := .collecting start (bytes ++ [char]) })) ∧
      (framing = true → exec (.sampleCharacter port char framing) s =
        .next (s.onPort port fun p => { p with reception := .awaiting, bad := Counter.inc p.bad })) ∧
      (framing = true ∨ 10 ≤ bytes.length →
        exec (.sampleMessage port char framing) s = exec (.sampleCharacter port char framing) s)) ∧
    (∀ start bytes, p.reception = .collecting start bytes → 2000 ≤ (s.pace.stamp - start).toNat →
      exec (.messageDeadlineExpiry port) s =
        .next (s.onPort port fun p => { p with reception := .awaiting, bad := Counter.inc p.bad }))

/-- The eleventh character completes the message: a good one, by its check, its kind and its ranges, is pushed as the
newest sample with the stamp of that character, the oldest leaving a full stack counted as an overrun; a bad one is
counted. -/
def Obligations.MessagesJudged : Prop :=
  ∀ (port : PortId) (start : Stamp) (bytes : List Byte) (char : Byte) (s : State),
    let message := bytes ++ [char]
    let number := fun i n : Nat => natOf ((message.drop i).take n)
    let inRange := if port = .rig then number 2 4 ≤ 200000 ∧ -500000 ≤ (BitVec.ofNat 32 (number 6 4)).toInt ∧
        (BitVec.ofNat 32 (number 6 4)).toInt ≤ 500000
      else 100 ≤ number 6 2 ∧ number 6 2 ≤ 6400 ∧ 1 ≤ number 8 2
    let good := (message.map BitVec.toNat).sum % 256 = 0 ∧
      byteAt message 1 = (if port = .rig then 0x52#8 else 0x4C#8) ∧ inRange
    let sample : Sample := { stamp := s.pace.stamp, values := BitVec.ofNat 64 (number 2 8) }
    s.regs.run = .running → (s.port port).reception = .collecting start bytes → bytes.length = 10 →
    (¬ good → exec (.sampleMessage port char false) s =
      .next (s.onPort port fun p => { p with reception := .awaiting, bad := Counter.inc p.bad })) ∧
    (good → (s.port port).stack.length < 4 → exec (.sampleMessage port char false) s =
      .next (s.onPort port fun p => { p with reception := .awaiting, stack := p.stack ++ [sample] })) ∧
    (good → 4 ≤ (s.port port).stack.length → exec (.sampleMessage port char false) s =
      .next (s.onPort port fun p => { p with
        reception := .awaiting, stack := p.stack.tail ++ [sample], overruns := Counter.inc p.overruns }))

/-- A port selects against a capture stamp the newest sample of its stack whose stamp lies no later than the lead after
it and no earlier than the max age before it, and nothing where none qualifies. -/
def Obligations.SamplesSelected : Prop :=
  ∀ (p : SamplePort) (x : SampleSetting) (c : Stamp),
    let fits := fun y : Sample => y.stamp.toNat ≤ c.toNat + x.lead ∧
      (c.toNat < x.maxAge ∨ c.toNat - x.maxAge ≤ y.stamp.toNat)
    ((∀ y ∈ p.stack, ¬ fits y) → p.select x c = none) ∧
    ∀ (older newer : List Sample) (y : Sample), p.stack = older ++ y :: newer → fits y →
      (∀ z ∈ newer, ¬ fits z) → p.select x c = some y.values

/-! ### Vertical alignment -/

/-- A measurement begins where one is looked for, the unit is IDLE and the run state is one it looks in: of the
oldest MEASURING entry, on the probe rows and W of the setting and the profile sets of its two slots. Its finding:
disabled with fewer than 2 probe rows or W 0; otherwise each candidate offset is scored over its usable probes, the
best has the lowest score, then the smaller magnitude, then the negative sign, and the finding is valid where
another candidate has a score and the lowest of those exceeds the best by the confidence floor. Measurement done,
for an entry that is to be delivered: the tracker and the counters by the finding, the entry READY with its
measurement and the applied offset as it then stands, the unit IDLE; an idle pair is removed, its slots released,
and the pass and the close check follow. That MEASUREMENT_DONE ends the measurement whenever it comes is the model's
choice (log 18, DESIGN CHOICE). -/
def Obligations.MeasurementsMade : Prop :=
  (∀ (x : Entry) (before after : List Entry) (s : State),
    let begun : InProgress :=
      { unit := x.unit, rows := s.settings.probes.rows, range := s.settings.probes.range,
        left := s.profilesOf x.left, right := s.profilesOf x.right, begun := s.pace.stamp }
    s.align.looking = true → s.align.busy = none →
    s.regs.run = .running ∨ s.regs.run = .halted ∨ (s.regs.run = .starting ∧ s.regs.startedHalted = true) →
    s.matcher.table = before ++ x :: after → x.state = .measuring → (∀ y ∈ before, y.state ≠ .measuring) →
    exec .measurementBegin s = .next { s with align := { s.align with looking := false, busy := some begun } }) ∧
  (∀ (p : InProgress) (floor : Nat),
    let enabled : Prop := 2 ≤ p.rows.length ∧ 1 ≤ p.range
    let usable := fun (ps : List RowProfile) (row : Int) =>
      ps.find? fun x : RowProfile => decide ((x.row : Int) = row ∧ x.damaged = false)
    let differences := fun d : Int => p.rows.filterMap fun row : Nat =>
      match usable p.left row, usable p.right (row + d) with
      | some l, some r => some ((List.zipWith (fun a b : Nat => ((a : Int) - b).natAbs) l.samples r.samples).sum)
      | _, _ => none
    let scored := fun (d : Int) (x : Nat) => -(p.range : Int) ≤ d ∧ d ≤ p.range ∧ 2 ≤ (differences d).length ∧
      x = (differences d).sum / (differences d).length
    (¬ enabled → p.finding floor = .disabled) ∧
    (enabled → (∀ d x d' x', scored d x → scored d' x' → d = d') → p.finding floor = .invalid) ∧
    (∀ best x other next, enabled → scored best x → scored other next → other ≠ best →
      (∀ d y, scored d y → d ≠ best → next ≤ y ∧
        (x < y ∨ (x = y ∧ (best.natAbs < d.natAbs ∨ (best.natAbs = d.natAbs ∧ best < d))))) →
      (floor ≤ next - x → p.finding floor = .valid { offset := best, confidence := next - x }) ∧
      (next - x < floor → p.finding floor = .invalid))) ∧
  ∀ (p : InProgress) (x : Entry) (before after : List Entry) (s : State),
    let finding := p.finding s.settings.track.floor
    let field := match finding with
      | .valid m => some m
      | _ => none
    let tracked : AlignmentUnit := match finding with
      | .valid m => { s.align.track s.settings.track m.offset with valid := Counter.inc s.align.valid }
      | .invalid => { s.align with invalid := Counter.inc s.align.invalid }
      | .disabled => s.align
    let idle : AlignmentUnit := { tracked with busy := none, looking := true }
    s.align.busy = some p → s.matcher.table = before ++ x :: after → x.unit = p.unit → x.state = .measuring →
    (∀ y ∈ before ++ after, y.unit ≠ p.unit) →
    (x.disposition = .deliver → exec .measurementDone s = .next { s with
      align := idle
      matcher := { s.matcher with
        table := before ++
          { x with measurement := field, applied := some tracked.offset, state := .ready } :: after } }) ∧
    (x.disposition = .release → exec .measurementDone s = .next (State.dispose { s with
      align := idle
      matcher := { s.matcher with table := before ++ after }
      store := s.store.releaseAll x.slots }))

/-- The offset tracker at a valid measurement: in AUTO by the three cases of its table, then moved to the candidate
where the agreement count has reached the settle count, counted as a settle; in FIXED it does not change. -/
def Obligations.TrackerSettles : Prop :=
  ∀ (a : AlignmentUnit) (t : TrackSetting) (b : Int),
    let settled := fun (c : Int) (n : Nat) (x : AlignmentUnit) =>
      if t.settleCount ≤ n then
        { x with offset := c, candidate := none, agreement := 0, settles := Counter.inc a.settles }
      else { x with candidate := some c, agreement := n }
    (t.mode = .fixed → a.track t b = a) ∧
    (t.mode = .auto → b = a.offset → a.track t b = { a with candidate := none, agreement := 0 }) ∧
    (t.mode = .auto → b ≠ a.offset → a.candidate = some b → a.track t b = settled b (a.agreement + 1) a) ∧
    (t.mode = .auto → b ≠ a.offset → a.candidate ≠ some b → a.track t b = settled b 1 a)

/-! ### Delivery and the result ring -/

/-- A delivery starts in RUNNING with the engine IDLE, the oldest entry READY for delivery, a target and a place to
reserve: the head target leaves the list; a target smaller than two pictures is discarded with its TARGET SHORT record,
the entry staying READY; otherwise the place is reserved, the entry is DELIVERING and the settings are noted. -/
def Obligations.DeliveryStarts : Prop :=
  ∀ (x : Entry) (rest : List Entry) (g : Target) (targets : List Target) (s : State),
    let f := s.settings.format
    let copy : Copy :=
      { target := g, format := f, orientLeft := s.settings.orientLeft, orientRight := s.settings.orientRight,
        fill := s.settings.track.fill, accepted := 0 }
    s.regs.run = .running → s.delivery.copy = none → s.writer.held.length + s.writer.reserved < 8 →
    s.matcher.table = x :: rest → x.state = .ready → x.disposition = .deliver →
    s.delivery.targets = g :: targets →
    (2 * f.height * (f.width * f.depth.bits / 8) ≤ g.size.toNat → exec .deliveryStart s = .next { s with
      writer := { s.writer with reserved := s.writer.reserved + 1 }
      delivery := { s.delivery with targets := targets, copy := some copy }
      matcher := { s.matcher with table := { x with state := .delivering } :: rest } }) ∧
    (g.size.toNat < 2 * f.height * (f.width * f.depth.bits / 8) →
      ∃ t : State, exec .deliveryStart s = .next t ∧
        t.delivery = { s.delivery with targets := targets, short := Counter.inc s.delivery.short } ∧
        t.writer = (s.place (.targetShort g.tag g.size x.unit)).writer ∧
        t.writer.held = s.writer.held ++ [.targetShort g.tag g.size x.unit] ∧
        t.writer.reserved = s.writer.reserved ∧ t.writer.nextSerial = s.writer.nextSerial ∧
        t.matcher = s.matcher ∧ t.store = s.store ∧ t.regs = s.regs ∧ t.carried = s.carried ∧
        t.settings = s.settings ∧ t.align = s.align ∧ t.reader = s.reader ∧ t.left = s.left ∧ t.right = s.right ∧
        t.pace = s.pace ∧ t.leftLens = s.leftLens ∧ t.rightLens = s.rightLens ∧ t.rig = s.rig)

/-- Copy completion: the target writes that remain accepted in order ahead of the record, which goes into the
reserved place with the target's tag, the entry's fields and the damage and flaws of its slots' frames; the take
count raised for an entry that bears a take number; the entry removed and its slots released; the kind's counter
raised; the engine IDLE; then the matcher's pass and close check, and a waiting reader's count. The writes are the
oriented rows of each half in the order of the packing, the RIGHT rows of a PAIR or a SINGLE at the applied offset
with fill rows outside the frame, a DOUBLE in both halves unshifted; rows are packed pixels, read back as they were
packed. Before its completion a copy has the next of its writes accepted in the same order, all but the last of them
at most, and nothing else changes; a reset abandons those not yet accepted. That COPY_COMPLETION says how many are
accepted before the copy completes, and that all that remain join the carried list in the act of its completion, is
the model's choice (log 19, DESIGN CHOICE). So is that COPY_COMPLETION has no effect with bus mastering off (log 2,
DESIGN CHOICE; such a write is a bus error: log 25, DEDUCED), and that the take count is raised in DRAINING too (log
36, DESIGN CHOICE). -/
def Obligations.CopyCompletes : Prop :=
  (∀ (c : Copy) (x : Entry) (before after : List Entry) (s : State),
    s.regs.busMaster = true → s.delivery.copy = some c → s.matcher.table = before ++ x :: after →
    x.state = .delivering → (∀ y ∈ before ++ after, y.state ≠ .delivering) →
    ∃ u : State, exec .copyCompletion s = .next (u.dispose.onReader CueReader.reportPair) ∧
      u.carried = s.carried ++ ((c.writes s.store.mem x).drop c.accepted).map BusItem.write ∧
      u.writer = (State.place { s with writer := { s.writer with reserved := s.writer.reserved - 1 } }
        (.delivery (s.deliveryRecord c x))).writer ∧
      u.writer.held = s.writer.held ++ [.delivery (s.deliveryRecord c x)] ∧
      u.writer.reserved = s.writer.reserved - 1 ∧ u.writer.nextSerial = s.writer.nextSerial ∧
      u.matcher = { s.matcher with
        table := before ++ after
        takeRecords := if x.takeNumber.isSome then Counter.inc s.matcher.takeRecords
          else s.matcher.takeRecords } ∧
      u.store = s.store.releaseAll x.slots ∧ u.store.mem = s.store.mem ∧
      u.delivery.copy = none ∧ u.delivery.targets = s.delivery.targets ∧ u.delivery.short = s.delivery.short ∧
      u.delivery.pairs = (match x.kind with
        | .pair _ => Counter.inc s.delivery.pairs
        | _ => s.delivery.pairs) ∧
      u.delivery.singles = (match x.kind with
        | .orphan _ false => Counter.inc s.delivery.singles
        | _ => s.delivery.singles) ∧
      u.delivery.doubles = (match x.kind with
        | .orphan _ true => Counter.inc s.delivery.doubles
        | _ => s.delivery.doubles) ∧
      u.regs = s.regs ∧ u.settings = s.settings ∧ u.align = s.align ∧ u.reader = s.reader ∧ u.left = s.left ∧
      u.right = s.right ∧ u.pace = s.pace ∧ u.leftLens = s.leftLens ∧ u.rightLens = s.rightLens ∧ u.rig = s.rig) ∧
  (∀ (c : Copy) (x : Entry) (before after : List Entry) (n : Nat) (s : State),
    let remaining := (c.writes s.store.mem x).drop c.accepted
    let rows := remaining.dropLast.take n
    let cut := remaining ++ s.writer.recordWrite.toList ++ s.writer.statusWrite.toList
    s.delivery.copy = some c → s.matcher.table = before ++ x :: after →
    x.state = .delivering → (∀ y ∈ before ++ after, y.state ≠ .delivering) →
    (s.regs.busMaster = true → exec (.copyCompletion (some n)) s = .next { s with
      carried := s.carried ++ rows.map BusItem.write
      delivery := { s.delivery with copy := some { c with accepted := c.accepted + rows.length } } }) ∧
    (s.regs.busMaster = false → ∀ k, exec (.copyCompletion k) s = .next s) ∧
    (cut ≠ [] → ∃ t : State, exec .reset s = .next t ∧ t.carried = s.carried ++ [.abandoned cut])) ∧
  (∀ (c : Copy) (x : Entry) (s : State),
    let record := s.deliveryRecord c x
    let fields := fun (v : EntryEye) (f : FrameRecord) => (
      { captureStamp := v.captureStamp, frameCount := v.frameCount, countGap := v.countGap,
        damagedRows := f.damagedRows, flaws := f.flaws } : EyeFields)
    record.kind = x.kind ∧ record.tag = c.target.tag ∧ record.droppedSince = x.droppedSince.getD 0 ∧
    record.unit = x.unit ∧ record.takeNumber = x.takeNumber ∧ record.applied = x.applied.getD 0 ∧
    record.measurement = x.measurement ∧ record.leftLens = x.leftLens ∧ record.rightLens = x.rightLens ∧
    record.rig = x.rig ∧ (x.left = none → record.left = none) ∧ (x.right = none → record.right = none) ∧
    (∀ v f, x.left = some v → s.store.slot v.slot = .held f → record.left = some (fields v f)) ∧
    (∀ v f, x.right = some v → s.store.slot v.slot = .held f → record.right = some (fields v f))) ∧
  (∀ (c : Copy) (x : Entry) (l r : EntryEye) (mem : Memory),
    let f := c.format
    let size := f.width * f.depth.bits / 8
    let stored := fun slot i : Nat =>
      (List.range size).map fun k => Memory.read mem (slot * 16777216 + i * size + k)
    let oriented := fun (o : Orientation) (slot row : Nat) =>
      let bytes := stored slot (if o = .flipRows ∨ o = .rotate180 then f.height - 1 - row else row)
      if o = .flipColumns ∨ o = .rotate180 then pack f.depth (unpack f.depth bytes).reverse else bytes
    let fill := pack f.depth (List.replicate f.width (c.fill.toNat % 2 ^ f.depth.bits))
    let shifted := fun row : Nat =>
      if 0 ≤ (row : Int) + x.applied.getD 0 ∧ (row : Int) + x.applied.getD 0 < f.height then
        oriented c.orientRight r.slot ((row : Int) + x.applied.getD 0).toNat
      else fill
    let at_ := fun (place : Nat) (bytes : List Byte) => (
      { address := c.target.address.toNat + place * size, bytes := bytes } : HostWrite)
    let lefts := fun rows : Nat → List Byte => fun row : Nat =>
      at_ (if f.packing = .sequential then row else 2 * row) (rows row)
    let rights := fun rows : Nat → List Byte => fun row : Nat =>
      at_ (if f.packing = .sequential then f.height + row else 2 * row + 1) (rows row)
    let both := fun one two : Nat → List Byte =>
      if f.packing = .sequential then (List.range f.height).map (lefts one) ++ (List.range f.height).map (rights two)
      else (List.range f.height).flatMap fun row => [lefts one row, rights two row]
    let leftRows := oriented c.orientLeft l.slot
    let rightRows := oriented c.orientRight r.slot
    (∀ d, x.kind = .pair d → x.left = some l → x.right = some r → c.writes mem x = both leftRows shifted) ∧
    (x.kind = .orphan .left false → x.left = some l →
      c.writes mem x = (List.range f.height).map (lefts leftRows)) ∧
    (x.kind = .orphan .right false → x.right = some r →
      c.writes mem x = (List.range f.height).map (rights shifted)) ∧
    (x.kind = .orphan .left true → x.left = some l → c.writes mem x = both leftRows leftRows) ∧
    (x.kind = .orphan .right true → x.right = some r → c.writes mem x = both rightRows rightRows)) ∧
  ∀ depth : Depth,
    let group := match depth with
      | .ten => 5
      | .twelve => 3
      | .sixteen => 2
    (∀ (bytes : List Byte) (j : Nat), bytes.length % group = 0 → j * depth.bits < 8 * bytes.length →
      (unpack depth bytes)[j]? = some (natOf bytes / 2 ^ (depth.bits * j) % 2 ^ depth.bits)) ∧
    (∀ pixels : List Nat, pixels.length * depth.bits % (8 * group) = 0 → (∀ p ∈ pixels, p < 2 ^ depth.bits) →
      unpack depth (pack depth pixels) = pixels)

/-- An accepted record write, taken in its turn among the writer's accesses: carried, the head's place freed, the
serial advanced past 0, the count raised, RESULT set; the next record held is written where it has room, and
otherwise the consumed word is read. Out of its turn it is not taken (R195). A record placed joins the tail; in IDLE
the head is then written where it has room, WRITING, and otherwise the consumed word is read, CHECKING; in the other
states nothing else changes (R129). The 128 bytes of each kind of record: its fields, its presence flags, and zero
in every byte of no field it carries. -/
def Obligations.RecordWritten : Prop :=
  (∀ (h : HostWrite) (r : ResultRecord) (rest : List ResultRecord) (s : State),
    let w := s.writer
    let next := if w.nextSerial = 0xFFFFFFFF#32 then 1#32 else w.nextSerial + 1#32
    w.recordWrite = some h → w.held = r :: rest → s.regs.busMaster = true →
    (w.inTurn .recordWrite = false → exec .recordWriteAccepted s = .next s) ∧
    (w.inTurn .recordWrite = true → ∃ t : State, exec .recordWriteAccepted s = .next t ∧
      (t.carried = s.carried ++ [.write h] ∨ t.carried = s.carried ++ [.write h, .msi]) ∧
      t.regs = { s.regs with cause := s.regs.cause ||| 0x001#9 } ∧
      t.writer.held = rest ∧ t.writer.lastSerial = w.nextSerial ∧ t.writer.nextSerial = next ∧
      t.writer.recordsWritten = Counter.inc w.recordsWritten ∧ t.writer.reserved = w.reserved ∧
      t.writer.consumed = w.consumed ∧ t.writer.statusWrite = w.statusWrite ∧
      (rest = [] → t.writer.state = .idle ∧ t.writer.recordWrite = none ∧
        t.writer.consumedRead = w.consumedRead ∧ t.writer.presented = w.presented.erase .recordWrite) ∧
      (∀ r2 rest2, rest = r2 :: rest2 → (next - w.consumed).toNat ≤ s.regs.bases.ringEntries →
        t.writer.state = .writing ∧ t.writer.recordWrite = some
          { address := s.regs.bases.ringBase.toNat + 128 * ((next.toNat - 1) % s.regs.bases.ringEntries),
            bytes := r2.bytes next } ∧
        t.writer.consumedRead = w.consumedRead ∧
        t.writer.presented = w.presented.erase .recordWrite ++ [.recordWrite] ∧ (r2.bytes next).length = 128) ∧
      (∀ r2 rest2, rest = r2 :: rest2 → s.regs.bases.ringEntries < (next - w.consumed).toNat →
        t.writer.state = .checking ∧ t.writer.recordWrite = none ∧
        (∀ read, w.consumedRead = some read → t.writer.consumedRead = some read ∧
          t.writer.presented = w.presented.erase .recordWrite) ∧
        (w.consumedRead = none →
          t.writer.consumedRead = some { address := s.regs.bases.consumedAddress, issued := s.pace.stamp } ∧
          t.writer.presented = w.presented.erase .recordWrite ++ [.consumedRead])) ∧
      t.store = s.store ∧ t.matcher = s.matcher ∧ t.delivery = s.delivery ∧ t.reader = s.reader ∧
      t.left = s.left ∧ t.right = s.right ∧ t.align = s.align ∧ t.pace = s.pace ∧ t.settings = s.settings)) ∧
  (∀ (r : ResultRecord) (s : State),
    let w := s.writer
    let joined : ResultWriter := { w with held := w.held ++ [r] }
    (w.state ≠ .idle → s.place r = { s with writer := joined }) ∧
    (∀ head rest, w.state = .idle → w.held ++ [r] = head :: rest →
      ((w.nextSerial - w.consumed).toNat ≤ s.regs.bases.ringEntries → s.place r = { s with writer := { joined with
        state := .writing, presented := w.presented ++ [.recordWrite]
        recordWrite := some
          { address := s.regs.bases.ringBase.toNat + 128 * ((w.nextSerial.toNat - 1) % s.regs.bases.ringEntries),
            bytes := head.bytes w.nextSerial } } }) ∧
      (s.regs.bases.ringEntries < (w.nextSerial - w.consumed).toNat →
        (w.consumedRead = none → s.place r = { s with writer := { joined with
          state := .checking, presented := w.presented ++ [.consumedRead]
          consumedRead := some { address := s.regs.bases.consumedAddress, issued := s.pace.stamp } } }) ∧
        (w.consumedRead ≠ none → s.place r = { s with writer := { joined with state := .checking } })))) ∧
  ∀ serial : BitVec 32,
    let one := fun p : Bool => if p then (1 : Int) else 0
    let flaws := fun f : Flaws => one f.tailMissing + 2 * one f.rowCount + 4 * one f.frameCheck
    let number := fun {w : Nat} (x : Option (BitVec w)) => ((x.map BitVec.toNat).getD 0 : Int)
    let head := fun kind flags : Int => [(⟨0x00, 4, serial.toNat⟩ : LayoutField), ⟨0x04, 1, kind⟩, ⟨0x06, 2, flags⟩]
    (∀ d : DeliveryRecord,
      let l := d.left
      let r := d.right
      let isPair := match d.kind with
        | .pair _ => true
        | _ => false
      Laid 128 ((ResultRecord.delivery d).bytes serial)
        (head (match d.kind with
            | .pair _ => 1
            | .orphan _ false => 2
            | .orphan _ true => 3)
          (one l.isSome + 2 * one r.isSome + 4 * one (l.bind (·.countGap)).isSome +
            8 * one (r.bind (·.countGap)).isSome + 16 * one d.takeNumber.isSome + 32 * one isPair +
            64 * one d.measurement.isSome + 128 * one d.leftLens.isSome + 256 * one d.rightLens.isSome +
            512 * one d.rig.isSome) ++
        [⟨0x08, 2, d.tag.toNat⟩, ⟨0x0A, 2, d.droppedSince⟩, ⟨0x0C, 4, d.unit.toNat⟩, ⟨0x10, 4, number d.takeNumber⟩,
         ⟨0x14, 4, match d.kind with
            | .pair skew => skew
            | _ => 0⟩,
         ⟨0x18, 6, number (l.map (·.captureStamp))⟩, ⟨0x1E, 6, number (r.map (·.captureStamp))⟩,
         ⟨0x24, 2, number (l.map (·.frameCount))⟩, ⟨0x26, 2, number (r.map (·.frameCount))⟩,
         ⟨0x28, 2, number (l.bind (·.countGap))⟩, ⟨0x2A, 2, number (r.bind (·.countGap))⟩,
         ⟨0x2C, 2, ((l.map (·.damagedRows)).getD 0 : Nat)⟩, ⟨0x2E, 2, ((r.map (·.damagedRows)).getD 0 : Nat)⟩,
         ⟨0x30, 1, (l.map fun x => flaws x.flaws).getD 0⟩, ⟨0x31, 1, (r.map fun x => flaws x.flaws).getD 0⟩,
         ⟨0x32, 1, d.applied⟩, ⟨0x33, 1, (d.measurement.map (·.offset)).getD 0⟩,
         ⟨0x34, 4, ((d.measurement.map (·.confidence)).getD 0 : Nat)⟩, ⟨0x38, 8, number d.leftLens⟩,
         ⟨0x40, 8, number d.rightLens⟩, ⟨0x48, 8, number d.rig⟩])) ∧
    (∀ value, Laid 128 ((ResultRecord.note value).bytes serial) (head 4 0 ++ [⟨0x60, 4, value.toNat⟩])) ∧
    (∀ (n : BitVec 32) (opened : Stamp), Laid 128 ((ResultRecord.takeOpened n opened).bytes serial)
      (head 5 16 ++ [⟨0x10, 4, n.toNat⟩, ⟨0x50, 6, opened.toNat⟩])) ∧
    (∀ (n : BitVec 32) (opened closed : Stamp) (count : Counter),
      Laid 128 ((ResultRecord.takeClosed n opened closed count).bytes serial)
        (head 6 16 ++ [⟨0x10, 4, n.toNat⟩, ⟨0x50, 6, opened.toNat⟩, ⟨0x56, 6, closed.toNat⟩,
          ⟨0x5C, 4, count.toNat⟩])) ∧
    (∀ (tag : BitVec 16) (size unit : BitVec 32), Laid 128 ((ResultRecord.targetShort tag size unit).bytes serial)
      (head 7 0 ++ [⟨0x08, 2, tag.toNat⟩, ⟨0x0C, 4, unit.toNat⟩, ⟨0x64, 4, size.toNat⟩])) ∧
    (∀ (count : Nat) (first last : BitVec 16),
      Laid 128 ((ResultRecord.targetsRecalled count first last).bytes serial)
        (head 8 0 ++ [⟨0x68, 1, count⟩, ⟨0x6A, 2, first.toNat⟩, ⟨0x6C, 2, last.toNat⟩])) ∧
    (∀ (code : FaultCode) (cursor : Nat), Laid 128 ((ResultRecord.cueFault code cursor).bytes serial)
      (head 9 0 ++ [⟨0x6E, 1, code.code⟩, ⟨0x70, 4, cursor⟩])) ∧
    [FaultCode.unknownCue, .windowEnd, .jumpRange, .callDepth, .returnEmpty, .prefixTwice, .prefixMisplaced, .badValue,
      .formatTooLarge, .takeNested, .noTake].map FaultCode.code = [1, 2, 3, 4, 5, 6, 7, 8, 9, 10, 11]

/-- A consumed word returned in its turn to a writer in CHECKING or WAITING: known from then on, unless it claims
records not yet written; the head is written where it now has room; from CHECKING without room the writer enters
WAITING, counted, with RING_FULL, and in WAITING it stays. An accepted status write is carried and is no longer in
flight, and after the final one the writer is STOPPED (R134). The writer's accesses have their turn in the order it
presented them: no write presented before is still in flight (R195). The 256 bytes of the status block. -/
def Obligations.WriterRepliesTaken : Prop :=
  (∀ (v : BitVec 32) (read : HostRead) (r : ResultRecord) (rest : List ResultRecord) (s : State),
    let w := s.writer
    let consumed := if 1 ≤ (v - w.lastSerial).toNat ∧ (v - w.lastSerial).toNat ≤ 2147483647 then w.lastSerial else v
    let room := (w.nextSerial - consumed).toNat ≤ s.regs.bases.ringEntries
    let known : ResultWriter := { w with
      consumedRead := none, consumed := consumed, presented := w.presented.erase .consumedRead }
    let write : HostWrite :=
      { address := s.regs.bases.ringBase.toNat + 128 * ((w.nextSerial.toNat - 1) % s.regs.bases.ringEntries),
        bytes := r.bytes w.nextSerial }
    w.consumedRead = some read → w.held = r :: rest → w.state = .checking ∨ w.state = .waiting →
    (w.inTurn .consumedRead = false → exec (.consumedReadReturn v) s = .next s) ∧
    (w.inTurn .consumedRead = true →
      (room → exec (.consumedReadReturn v) s = .next { s with writer := { known with
        recordWrite := some write, state := .writing, presented := known.presented ++ [.recordWrite] } }) ∧
      (¬ room → w.state = .waiting → exec (.consumedReadReturn v) s = .next { s with writer := known }) ∧
      (¬ room → w.state = .checking → exec (.consumedReadReturn v) s = .next
        (({ s with writer := { known with
          state := .waiting, roomWaits := Counter.inc w.roomWaits } } : State).setCause .ringFull)))) ∧
  (∀ (h : HostWrite) (s : State), s.writer.statusWrite = some h → s.regs.busMaster = true →
    (s.writer.inTurn .statusWrite = false → exec .statusWriteAccepted s = .next s) ∧
    (s.writer.inTurn .statusWrite = true → exec .statusWriteAccepted s = .next { s with
      carried := s.carried ++ [.write h]
      writer := { s.writer with
        statusWrite := none, presented := s.writer.presented.erase .statusWrite
        final := if s.writer.final = .issued then .accepted else s.writer.final
        state := if s.writer.final = .issued then .stopped else s.writer.state } })) ∧
  (∀ (w : ResultWriter) (a : Access) (before after : List Access),
    w.presented = before ++ a :: after → a ∉ before →
    (w.inTurn a = true ↔ Access.recordWrite ∉ before ∧ .statusWrite ∉ before ∧ .targetWrite ∉ before)) ∧
  (∀ (serial : BitVec 32) (final : Bool) (s : State),
    let one := fun p : Bool => if p then (1 : Int) else 0
    let receiver := fun (base : Nat) (r : Receiver) =>
      [(⟨base, 1, r.sync.code⟩ : LayoutField), ⟨base + 0x01, 1, r.history.length⟩,
       ⟨base + 0x02, 1, historyByte r.history⟩, ⟨base + 0x04, 4, r.counters.slips.toNat⟩,
       ⟨base + 0x08, 4, r.counters.mismatches.toNat⟩, ⟨base + 0x0C, 4, r.counters.cuts.toNat⟩,
       ⟨base + 0x10, 4, r.counters.headDamaged.toNat⟩, ⟨base + 0x14, 4, r.counters.flawed.toNat⟩,
       ⟨base + 0x18, 4, r.counters.damagedRows.toNat⟩, ⟨base + 0x1C, 4, r.counters.countGaps.toNat⟩]
    Laid 256 (s.statusBytes serial final)
      ([⟨0x00, 4, serial.toNat⟩, ⟨0x04, 6, s.pace.stamp.toNat⟩, ⟨0x0A, 1, s.regs.run.code⟩, ⟨0x0B, 1, one final⟩,
        ⟨0x0C, 1, s.pace.state.code⟩, ⟨0x0D, 1, s.matcher.state.code⟩, ⟨0x0E, 1, s.matcher.take.code⟩,
        ⟨0x0F, 1, s.reader.state.code⟩, ⟨0x10, 4, (s.pace.measured.getD 0 : Nat)⟩,
        ⟨0x14, 2, s.pace.holdoverCount⟩, ⟨0x16, 1, s.store.slots.countP Slot.isFree⟩,
        ⟨0x17, 1, s.matcher.table.length⟩, ⟨0x18, 1, s.store.leftQueue.length⟩,
        ⟨0x19, 1, s.store.rightQueue.length⟩, ⟨0x1A, 1, s.delivery.targets.length⟩,
        ⟨0x1B, 1, one s.delivery.copy.isSome⟩, ⟨0x1C, 1, s.writer.held.length⟩, ⟨0x1D, 1, s.writer.reserved⟩,
        ⟨0x1E, 1, if final then s.writer.unwritten else 0⟩, ⟨0x1F, 1, s.align.offset⟩,
        ⟨0x20, 4, s.writer.nextSerial.toNat⟩, ⟨0x24, 4, s.writer.consumed.toNat⟩,
        ⟨0x28, 4, s.matcher.takeNumber.toNat⟩, ⟨0x2C, 4, s.matcher.nextUnit.toNat⟩, ⟨0x30, 4, s.matcher.skew⟩,
        ⟨0x34, 1, s.settings.track.mode.code⟩, ⟨0x35, 1, s.align.candidate.getD 0⟩,
        ⟨0x36, 1, one s.align.candidate.isSome⟩, ⟨0x37, 1, s.align.agreement⟩, ⟨0x38, 1, s.reader.state.reason⟩,
        ⟨0x39, 1, s.reader.stack.length⟩, ⟨0x3A, 1, prefixByte s.reader.eyePrefix⟩,
        ⟨0x3B, 1, s.reader.state.mark⟩, ⟨0x3C, 4, s.reader.cursor⟩, ⟨0x40, 4, s.reader.state.waitArgument⟩,
        ⟨0x44, 4, s.reader.state.waitCount⟩] ++ receiver 0x48 s.left ++ receiver 0x68 s.right ++
       [⟨0x88, 4, s.pace.inconsistent.toNat⟩, ⟨0x8C, 4, s.store.flushed.toNat⟩,
        ⟨0x90, 4, s.matcher.pairsFormed.toNat⟩, ⟨0x94, 4, s.matcher.orphansFormed.toNat⟩,
        ⟨0x98, 4, s.matcher.orphansDropped.toNat⟩, ⟨0x9C, 4, s.align.valid.toNat⟩,
        ⟨0xA0, 4, s.align.invalid.toNat⟩, ⟨0xA4, 4, s.align.settles.toNat⟩, ⟨0xA8, 4, s.delivery.pairs.toNat⟩,
        ⟨0xAC, 4, s.delivery.singles.toNat⟩, ⟨0xB0, 4, s.delivery.doubles.toNat⟩,
        ⟨0xB4, 4, s.delivery.short.toNat⟩, ⟨0xB8, 4, s.writer.recordsWritten.toNat⟩,
        ⟨0xBC, 4, s.writer.roomWaits.toNat⟩, ⟨0xC0, 4, s.writer.statusSkipped.toNat⟩,
        ⟨0xC4, 4, s.reader.executed.toNat⟩, ⟨0xC8, 4, s.reader.reLooks.toNat⟩, ⟨0xCC, 4, s.leftLens.bad.toNat⟩,
        ⟨0xD0, 4, s.leftLens.overruns.toNat⟩, ⟨0xD4, 4, s.rightLens.bad.toNat⟩,
        ⟨0xD8, 4, s.rightLens.overruns.toNat⟩, ⟨0xDC, 4, s.rig.bad.toNat⟩, ⟨0xE0, 4, s.rig.overruns.toNat⟩,
        ⟨0xFC, 4, serial.toNat⟩])) ∧
  (∀ (h : List Bool) (i : Nat), (historyByte h).testBit i = h.getD i false) ∧
  [PaceState.free, .referenced, .holdover].map PaceState.code = [0, 1, 2] ∧
  [SyncState.off, .hunt, .verify, .rowLock, .frameLock].map SyncState.code = [0, 1, 2, 3, 4] ∧
  [MatcherState.stopped, .acquire, .tracking].map MatcherState.code = [0, 1, 2] ∧
  [TakeState.closed, .opened, .closing].map TakeState.code = [0, 1, 2] ∧
  [TrackMode.auto, .fixed].map TrackMode.code = [0, 1] ∧
  [none, some EyeChoice.both, some (.only .left), some (.only .right)].map prefixByte = [0, 0x80, 0x81, 0x82] ∧
  [RunState.idle, .starting, .running, .draining, .halted].map RunState.code = [0, 1, 2, 3, 4] ∧
  ∀ (k n : Nat) (ended mark : Bool) (code : FaultCode),
    let states : List ReaderState := [.off, .running, .stalled, .held .targetRoom, .held .resultRoom,
      .held .takeClosing, .held .takeActive, .waiting .lock k ended, .waiting (.pairs n) k ended,
      .waiting (.ticks n) k ended, .waiting .takeClosed k ended, .parked, .faulted code mark]
    states.map ReaderState.code = [0, 1, 2, 3, 3, 3, 3, 4, 4, 4, 4, 5, 6] ∧
    states.map ReaderState.reason = [0, 0, 1, 3, 4, 5, 6, 7, 8, 9, 10, 2, code.code] ∧
    states.map ReaderState.waitArgument = [0, 0, 0, 0, 0, 0, 0, 0, n, n, 0, 0, 0] ∧
    states.map ReaderState.waitCount = [0, 0, 0, 0, 0, 0, 0, k, k, k, k, 0, 0] ∧
    states.map ReaderState.mark = [0, 0, 0, 0, 0, 0, 0, 0, 0, 0, 0, 0, if mark then 1 else 0]

/-! ### The Cue Reader -/

/-- What follows an execution, the end of a hold or of a wait, or a word: a fetch where one is allowed, of the word
at the window base plus the fetch pointer, and the decode of the cue at the cursor in a reader RUNNING or STALLED,
which stalls, holds, or faults with its cause and its record, placed as every record is (R129) or waiting for a
place. Nothing else changes. That the fetch comes first, so that one is in flight in a reader that then faults, is the
model's choice (log 37, DESIGN CHOICE), and so is that a reader whose cue passes every check stays RUNNING, and the cue
waits for its own command to execute it (log 9, DESIGN CHOICE). -/
def Obligations.DecodeGoesOn : Prop :=
  ∀ s : State,
    DecodesOn s s.resume ∧
    (s.reader.buffer.length ≤ 24 ∧ s.reader.fetch = none ∧ s.reader.fetchPointer < s.regs.bases.cueSize ∧
      s.reader.state.fetches = true →
      s.resume.reader.fetch = some
        { sequence := s.reader.sequence, offset := s.reader.fetchPointer,
          address := s.regs.bases.cueBase + BitVec.ofNat 64 s.reader.fetchPointer, issued := s.pace.stamp,
          reLook := false }) ∧
    (¬ (s.reader.buffer.length ≤ 24 ∧ s.reader.fetch = none ∧ s.reader.fetchPointer < s.regs.bases.cueSize ∧
      s.reader.state.fetches = true) → s.resume.reader.fetch = s.reader.fetch) ∧
    (s.reader.state = .running ∨ s.reader.state = .stalled →
      match s.verdict with
      | .needByte | .ready _ => s.resume.reader.state = .running
      | .stall => s.resume.reader.state = .stalled
      | .hold _ r => s.resume.reader.state = .held r
      | .fault code => s.resume.reader.state =
          .faulted code (decide (8 ≤ s.writer.held.length + s.writer.reserved)) ∧
          s.resume.regs.cause = s.regs.cause ||| 0x004#9) ∧
    (s.reader.state ≠ .running → s.reader.state ≠ .stalled → s.resume.reader.state = s.reader.state)

/-- A cue word returned: stale, it is discarded and a new fetch looked for; current, its bytes past the skip count are
placed, the fetch pointer 8 on, and what waited on them goes on; a PARKED reader resumes where a re-look found another
byte than PARK; in OFF the word is discarded. That the next fetch is issued before the decode goes on is the model's
choice (log 37, DESIGN CHOICE). -/
def Obligations.FetchReturns : Prop :=
  ∀ (f : Fetch) (word : BitVec 64) (s : State), s.reader.fetch = some f →
    let r := s.reader
    let placed : CueReader := { r with
      fetch := none, buffer := r.buffer ++ (leBytes 8 word.toNat).drop r.skip, skip := 0
      fetchPointer := r.fetchPointer + 8 }
    let resumes := f.reLook = true ∧ byteAt placed.buffer 0 ≠ 0#8
    (r.state = .off → exec (.cueFetchReturn word) s = .next { s with reader := { r with fetch := none } }) ∧
    (r.state ≠ .off → f.sequence ≠ r.sequence → exec (.cueFetchReturn word) s =
      .next (State.tryFetch { s with reader := { r with fetch := none } })) ∧
    (r.state ≠ .off → f.sequence = r.sequence →
      (r.state ≠ .parked → exec (.cueFetchReturn word) s = .next (State.resume { s with reader := placed })) ∧
      (r.state = .parked → resumes → exec (.cueFetchReturn word) s =
        .next (State.resume { s with reader := { placed with state := .running } })) ∧
      (r.state = .parked → ¬ resumes → exec (.cueFetchReturn word) s = .next { s with reader := placed }))

/-- What waits in the reader: a CUE FAULT record is placed once a place can be reserved; a held cue whose condition
is met executes as it does in RUNNING: the cursor past it, counted, with its own effect; one whose condition is
still not met stays HELD; a wait whose condition is met ends, the reader RUNNING. That the end of a wait stands as a
mark of the state until WAIT_END takes it is the model's choice (log 7, DESIGN CHOICE). A cue command whose cue
stands at the cursor and meets a hold condition at the command puts the reader in HELD with its reason, the cue
kept, a fetch issued where one is allowed (R148; that the command judges the cue again: log 9, DESIGN CHOICE); one
whose cue does not stand at the cursor of a RUNNING reader, every check but the hold passed, has no effect (log 2
and log 9, DESIGN CHOICE). -/
def Obligations.ReaderWaitsEnd : Prop :=
  ∀ s : State,
    (∀ code, s.reader.state = .faulted code true → s.writer.held.length + s.writer.reserved < 8 →
      ∃ t : State, exec .faultRecordPlaced s = .next t ∧ t.reader = { s.reader with state := .faulted code false } ∧
        t.writer = (s.place (.cueFault code s.reader.cursor)).writer ∧
        t.writer.held = s.writer.held ++ [.cueFault code s.reader.cursor] ∧
        t.writer.reserved = s.writer.reserved ∧ t.writer.nextSerial = s.writer.nextSerial ∧ t.regs = s.regs ∧
        t.store = s.store ∧ t.matcher = s.matcher ∧ t.delivery = s.delivery ∧ t.align = s.align ∧
        t.left = s.left ∧ t.right = s.right ∧ t.pace = s.pace ∧ t.settings = s.settings ∧
        t.carried = s.carried) ∧
    (∀ reason c, s.reader.state = .held reason → s.verdict = .ready c →
      c.name ∈ [CueName.target, .note, .recall, .openTake, .format, .orient, .probes] →
      let runs : State := { s with reader := { s.reader with state := .running } }
      let length := c.name.length s.reader.buffer
      runs.standsReady c ∧ exec .holdRelease s = exec (cueInstr c.name) runs ∧
      ∃ t : State, exec .holdRelease s = .next t ∧ t.reader.cursor = s.reader.cursor + length ∧
        t.reader.buffer = s.reader.buffer.drop length ∧ t.reader.executed = Counter.inc s.reader.executed) ∧
    (∀ reason g, s.reader.state = .held reason → s.verdict = .ready (.target g) →
      exec .holdRelease s = .next (State.resume (State.past { s with
        delivery := { s.delivery with targets := s.delivery.targets ++ [g] } } 16))) ∧
    (∀ reason v, s.reader.state = .held reason → s.verdict = .ready (.note v) →
      ∃ u : State, exec .holdRelease s = .next (State.resume (State.past u 8)) ∧ u = { s with writer := u.writer } ∧
        u.writer = (s.place (.note v)).writer ∧ u.writer.held = s.writer.held ++ [.note v]) ∧
    (∀ reason c reason', s.reader.state = .held reason → s.verdict = .hold c reason' →
      exec .holdRelease s = .next { s with reader := { s.reader with state := .held reason' } }) ∧
    (∀ condition count, s.reader.state = .waiting condition count true →
      exec .waitEnd s = .next (State.resume { s with reader := { s.reader with state := .running } })) ∧
    (∀ c reason, s.reader.state = .running → s.verdict = .hold c reason →
      let fetches : Prop := s.reader.buffer.length ≤ 24 ∧ s.reader.fetch = none ∧
        s.reader.fetchPointer < s.regs.bases.cueSize
      let held : CueReader := { s.reader with state := .held reason }
      (fetches → exec (cueInstr c.name) s = .next { s with reader := { held with
        fetch := some { sequence := s.reader.sequence, offset := s.reader.fetchPointer,
                        address := s.regs.bases.cueBase + BitVec.ofNat 64 s.reader.fetchPointer,
                        issued := s.pace.stamp, reLook := false } } }) ∧
      (¬ fetches → exec (cueInstr c.name) s = .next { s with reader := held })) ∧
    (∀ n : CueName, s.reader.state ≠ .running ∨
        (∀ c, c.name = n → s.verdict ≠ .ready c ∧ ∀ reason, s.verdict ≠ .hold c reason) →
      exec (cueInstr n) s = .next s)

/-- PARK puts the reader in PARKED with its cause, the byte not removed and nothing counted. PAD advances by one; JUMP,
CALL and RETURN set the cursor and flush the buffer, CALL pushing cursor + 8 and RETURN popping; EYE sets the prefix
flag. -/
def Obligations.FlowCuesExecute : Prop :=
  ∀ s : State,
    (s.standsReady .park → ∃ t : State, exec .park s = .next t ∧ OnlyRegistersAndPace { s with
        reader := { s.reader with state := .parked } } t ∧ t.pace = s.pace ∧
      t.regs = { s.regs with cause := s.regs.cause ||| 0x002#9 }) ∧
    (s.standsReady .pad → exec .pad s = .next (s.past 1).resume) ∧
    (∀ target, s.standsReady (.jump target) → exec .jump s = .next (s.movedTo target).resume) ∧
    (∀ target, s.standsReady (.call target) →
      exec .call s = .next (State.resume (State.movedTo { s with
        reader := { s.reader with stack := (s.reader.cursor + 8) :: s.reader.stack } } target))) ∧
    (∀ a rest, s.standsReady .ret → s.reader.stack = a :: rest →
      exec .returnCue s = .next (State.resume (State.movedTo { s with
        reader := { s.reader with stack := rest } } a))) ∧
    (s.standsReady .ret → s.reader.stack ≠ []) ∧
    (∀ choice, s.standsReady (.eye choice) → exec .eyeCue s = .next (State.resume (State.past { s with
      reader := { s.reader with eyePrefix := some choice } } 2)))

/-- A flush: every slot FREE, the queues and the pair table empty with the partner-wait marks dropped, the filling
frames cut and the measurement abandoned; a format-class flush counts the QUEUED and HELD slots and each cut. -/
def Obligations.FlushEmptiesPool : Prop :=
  ∀ (counted : Bool) (s : State),
    let cut := fun r : Receiver => { r with
      filling := none
      counters := { r.counters with
        cuts := if counted = true ∧ r.filling.isSome = true then Counter.inc r.counters.cuts
          else r.counters.cuts } }
    let stored := (s.store.slots.filter fun x => match x with
      | .queued _ | .held _ => true
      | _ => false).length
    s.flush counted = { s with
      left := cut s.left
      right := cut s.right
      store := { s.store with
        slots := List.replicate s.store.slots.length .free, leftQueue := [], rightQueue := []
        flushed := if counted then Counter.add s.store.flushed stored else s.store.flushed }
      matcher := { s.matcher with table := [], leftMark := ⟨0, false⟩, rightMark := ⟨0, false⟩ }
      align := { s.align with busy := none } }

/-- FORMAT, ORIENT and PROBES: the counted flush, the setting (FORMAT prunes the probe rows at or above its height,
ORIENT takes the eye prefix and clears it), the tracker reset or clamped by the mode, the cursor past the cue. They
execute with the take CLOSED alone. -/
def Obligations.FormatCuesExecute : Prop :=
  ∀ s : State,
    let flushed := s.flush true
    let restarted : AlignmentUnit := match s.settings.track.mode with
      | .auto => { flushed.align with offset := 0, candidate := none, agreement := 0 }
      | .fixed => { flushed.align with offset := s.settings.track.fixedOffset }
    let reclamped := fun range : Nat => match s.settings.track.mode with
      | .auto => { flushed.align with
          offset := max (-(range : Int)) (min (range : Int) s.align.offset), candidate := none, agreement := 0 }
      | .fixed => flushed.align
    (∀ f, s.standsReady (.format f) → s.matcher.take = .closed ∧
      exec .format s = .next (State.resume (State.past { flushed with
        settings := { s.settings with
          format := f
          probes := { s.settings.probes with rows := s.settings.probes.rows.filter fun r => decide (r < f.height) } }
        align := restarted } 8))) ∧
    (∀ o, s.standsReady (.orient o) → s.matcher.take = .closed ∧
      exec .orient s = .next (State.resume (State.past { flushed with
        settings := { s.settings with
          orientLeft := if s.reader.eyePrefix = some (.only .right) then s.settings.orientLeft else o
          orientRight := if s.reader.eyePrefix = some (.only .left) then s.settings.orientRight else o }
        align := restarted
        reader := { s.reader with eyePrefix := none } } 2))) ∧
    (∀ p, s.standsReady (.probes p) → s.matcher.take = .closed ∧
      exec .probes s = .next (State.resume (State.past { flushed with
        settings := { s.settings with probes := p }
        align := reclamped p.range } (4 + 2 * p.rows.length))))

/-- MATCH, TRACK, SAMPLES and PACE replace their setting whole. MATCH expires the waiting heads that have reached the
new partner wait and makes a pass; TRACK acts on the tracker by the two modes; SAMPLES changes nothing else. PACE times
with the new free period the FREE interval that a FREE tick at this same stamp began (R46, log 34), and changes nothing
else: a FREE tick already due keeps its due time, the first one after HOLDOVER included. -/
def Obligations.SettingCuesExecute : Prop :=
  ∀ s : State,
    (∀ m, s.standsReady (.matching m) →
      let reached := fun e : Eye => (s.head e).isSome ∧ (s.matcher.mark e).expired = false ∧
        s.store.queue (otherEye e) = [] ∧ (s.receiver (otherEye e)).sync = .frameLock ∧
        m.partnerWait ≤ (s.matcher.mark e).count
      ∃ u : State,
        u = { s with
          settings := { s.settings with matching := m }
          matcher := { s.matcher with leftMark := u.matcher.leftMark, rightMark := u.matcher.rightMark } } ∧
        (∀ e : Eye,
          (reached e → u.matcher.mark e = ⟨(s.matcher.mark e).count, true⟩) ∧
          (¬ reached e → u.matcher.mark e = s.matcher.mark e)) ∧
        exec .matchCue s = .next (State.resume (State.past (State.pass u) 12))) ∧
    (∀ x, s.standsReady (.track x) →
      let range := s.settings.probes.range
      let clear : AlignmentUnit := { s.align with candidate := none, agreement := 0 }
      let tracker : AlignmentUnit := match s.settings.track.mode, x.mode with
        | .auto, .auto => clear
        | .auto, .fixed => { clear with offset := x.fixedOffset }
        | .fixed, .fixed => { s.align with offset := x.fixedOffset }
        | .fixed, .auto => { s.align with offset := max (-(range : Int)) (min (range : Int) s.align.offset) }
      exec .track s = .next (State.resume (State.past { s with
        settings := { s.settings with track := x }, align := tracker } 8))) ∧
    (∀ x, s.standsReady (.samples x) → exec .samples s =
      .next (State.resume (State.past { s with settings := { s.settings with samples := x } } 12))) ∧
    (∀ p, s.standsReady (.pace p) → exec .pace s =
      .next (State.resume (State.past { s with
        settings := { s.settings with pace := p }
        pace := if s.pace.state = .free ∧ s.pace.droppedRun = none ∧ s.pace.tickAt = some s.pace.stamp then
            { s.pace with timer := s.pace.timer.map fun timer => { timer with wait := p.freePeriod } }
          else s.pace } 12)))

/-- LINK for the prefix eye or both, the prefix cleared: each named receiver enters HUNT from OFF where enabled, and OFF
from any state where disabled, out of FRAME_LOCK as a departure, with the frame being filled cut and the matcher told;
the other receiver and the other settings stay. LEFT first is the model's choice (log 20, DESIGN CHOICE). -/
def Obligations.LinkCueExecutes : Prop :=
  ∀ (enable : Bool) (s : State), s.standsReady (.link enable) →
    let named := fun e : Eye => s.reader.eyePrefix = none ∨ s.reader.eyePrefix = some .both ∨
      s.reader.eyePrefix = some (.only e)
    let hunting := fun r : Receiver => { r with
      sync := .hunt, rowLength := none, history := [], silence := 0, furtherMarks := 0 }
    let off := fun r : Receiver => { r with sync := .off, rowLength := none, history := [], expectation := none }
    let told := fun (e : Eye) (x : State) =>
      if ¬ named e then x
      else if (x.receiver e).sync = .off then (if enable then x.onReceiver e hunting else x)
      else if enable then x
      else if (x.receiver e).sync = .frameLock then x.departs e off
      else x.onReceiver e off
    let set : State := { s with
      settings := { s.settings with
        linkLeft := if named .left then enable else s.settings.linkLeft
        linkRight := if named .right then enable else s.settings.linkRight }
      reader := { s.reader with eyePrefix := none } }
    let u := told .right (told .left set)
    exec .link s = .next (State.resume (State.past u 2)) ∧
      u.settings = set.settings ∧ u.delivery = s.delivery ∧
      (s.matcher.take ≠ .closing → u.reader = set.reader ∧ u.writer = s.writer) ∧
      u.pace = s.pace ∧ u.leftLens = s.leftLens ∧ u.rightLens = s.rightLens ∧ u.rig = s.rig ∧
      u.store.mem = s.store.mem ∧
      ∀ e : Eye,
        (¬ named e → u.receiver e = s.receiver e) ∧
        (named e → enable = true → (s.receiver e).sync = .off → (u.receiver e).sync = .hunt) ∧
        (named e → enable = true → (s.receiver e).sync ≠ .off → u.receiver e = s.receiver e) ∧
        (named e → enable = false → (u.receiver e).sync = .off) ∧
        (named e → enable = false → (s.receiver e).sync ≠ .off → (u.receiver e).rowLength = none ∧
          (u.receiver e).history = [] ∧ (u.receiver e).expectation = none) ∧
        (named e → enable = false → (s.receiver e).sync = .frameLock → (u.receiver e).filling = none ∧
          u.regs.cause &&& 0x008#9 = 0x008#9) ∧
        (∀ f, named e → enable = false → (s.receiver e).sync = .frameLock → (s.receiver e).filling = some f →
          (s.store.slot f.slot).isFilling = true → u.store.slot f.slot = .free)

/-- TARGET joins the tail of the list; RECALL empties the list and places its record; OPEN TAKE opens the take at the
stamp now with its record; CLOSE TAKE sets the close stamp, makes the take CLOSING and is followed by the close check,
which completes the close there where it can, before the next cue is decoded; NOTE places its record. -/
def Obligations.TargetAndTakeCuesExecute : Prop :=
  ∀ s : State,
    (∀ g, s.standsReady (.target g) → s.delivery.targets.length < 32 ∧
      exec .target s = .next (State.resume (State.past { s with
        delivery := { s.delivery with targets := s.delivery.targets ++ [g] } } 16))) ∧
    (s.standsReady .recall → s.writer.held.length + s.writer.reserved < 8 ∧
      ∃ u : State, exec .recall s = .next (State.resume (State.past u 1)) ∧
        u = { s with delivery := { s.delivery with targets := [] }, writer := u.writer } ∧
        u.writer = (s.place (.targetsRecalled s.delivery.targets.length
          ((s.delivery.targets.head?.map (·.tag)).getD 0#16)
          ((s.delivery.targets.getLast?.map (·.tag)).getD 0#16))).writer ∧
        u.writer.held = s.writer.held ++ [.targetsRecalled s.delivery.targets.length
          ((s.delivery.targets.head?.map (·.tag)).getD 0#16) ((s.delivery.targets.getLast?.map (·.tag)).getD 0#16)] ∧
        u.writer.reserved = s.writer.reserved ∧ u.writer.nextSerial = s.writer.nextSerial) ∧
    (∀ n, s.standsReady (.openTake n) → s.matcher.take = .closed ∧ s.writer.held.length + s.writer.reserved < 8 ∧
      ∃ u : State, exec .openTake s = .next (State.resume (State.past u 8)) ∧
        u = { s with
          matcher := { s.matcher with
            take := .opened, takeNumber := n, openStamp := s.pace.stamp, closeStamp := none, takeRecords := 0#32 }
          writer := u.writer } ∧
        u.writer = (s.place (.takeOpened n s.pace.stamp)).writer ∧
        u.writer.held = s.writer.held ++ [.takeOpened n s.pace.stamp] ∧
        u.writer.reserved = s.writer.reserved ∧ u.writer.nextSerial = s.writer.nextSerial) ∧
    (s.standsReady .closeTake → s.matcher.take = .opened ∧
      exec .closeTake s = .next (State.resume (State.past (State.closeCheck { s with
        matcher := { s.matcher with take := .closing, closeStamp := some s.pace.stamp } }) 1))) ∧
    (∀ v, s.standsReady (.note v) → s.writer.held.length + s.writer.reserved < 8 ∧
      ∃ u : State, exec .note s = .next (State.resume (State.past u 8)) ∧ u = { s with writer := u.writer } ∧
        u.writer = (s.place (.note v)).writer ∧ u.writer.held = s.writer.held ++ [.note v] ∧
        u.writer.reserved = s.writer.reserved ∧ u.writer.nextSerial = s.writer.nextSerial)

/-- WAIT moves past itself; met at once it leaves the reader RUNNING, and otherwise the reader is WAITING with a count
of 0. A placed record and a pace tick then count for PAIRS and TICKS and meet the wait at its argument; both links in
FRAME_LOCK meet LOCK, and the take CLOSED meets TAKE_CLOSED. A wait that is met stands as WAITING with the mark 'ended',
until WAIT_END ends it: the model's choice (log 7, DESIGN CHOICE). -/
def Obligations.WaitsBegin : Prop :=
  ∀ s : State,
    (∀ c, s.standsReady (.wait c) →
      let met := (c = .lock ∧ s.left.sync = .frameLock ∧ s.right.sync = .frameLock) ∨
        (c = .takeClosed ∧ s.matcher.take = .closed)
      let moved := s.past 8
      (met → exec .waitCue s = .next moved.resume) ∧
      (¬ met → exec .waitCue s = .next (State.resume { moved with
        reader := { moved.reader with state := .waiting c 0 false } }))) ∧
    (∀ n k, s.reader.state = .waiting (.ticks n) k false →
      s.readerTick = { s with reader := { s.reader with
        state := .waiting (.ticks n) (k + 1) (decide (n ≤ k + 1)) } }) ∧
    (∀ n k, s.reader.state = .waiting (.pairs n) k false →
      s.reader.reportPair = { s.reader with state := .waiting (.pairs n) (k + 1) (decide (n ≤ k + 1)) }) ∧
    (∀ k both, s.reader.state = .waiting .lock k false →
      s.reader.reportLock both = { s.reader with state := .waiting .lock k both }) ∧
    (∀ k, s.reader.state = .waiting .takeClosed k false →
      s.reader.reportClosed = { s.reader with state := .waiting .takeClosed k true })

/-! ### The cue encodings -/

/-- The field checks read back, for every cue with its values in range, exactly the values its bytes were written
from: no bit of an encoding is dropped. -/
def Obligations.CueBytesDecode : Prop :=
  ∀ (c : Cue) (size height : Nat), size ≤ 1048576 → height ≤ 4096 → c.inRange size height = true →
    cueName (c.bytes.getD 0 0#8) = some c.name ∧ c.bytes.length = c.name.length c.bytes ∧
    cueFields c.name c.bytes size height = .good c

/-- The checks of R142 in their order (the two lengths of PROBES: log 16, DEDUCED). A cue whose bytes stand whole at
the cursor, in range, inside the window, allowed behind the prefix, in a state its state check and its hold condition
admit, passes every one. With no byte valid the code byte is awaited; a code that names no cue faults UNKNOWN_CUE;
behind an eye prefix EYE faults PREFIX_TWICE and every cue but ORIENT, LINK, PAD and PARK faults PREFIX_MISPLACED; a
cue whose length leaves the window faults WINDOW_END, and PROBES with a count above 8 BAD_VALUE; one not yet whole
stalls; one whose bytes spell no cue in range faults BAD_VALUE, but JUMP_RANGE for a target outside the window and
FORMAT_TOO_LARGE for a frame larger than a slot; and then the faults and holds of the stack, the take, the target list
and the pending-results queue. -/
def Obligations.WholeCuePasses : Prop :=
  (∀ (c : Cue) (rest : List Byte) (s : State),
    s.regs.bases.cueSize ≤ 1048576 → s.settings.format.height ≤ 4096 →
    c.inRange s.regs.bases.cueSize s.settings.format.height = true →
    s.reader.buffer = c.bytes ++ rest → prefixFault s.reader.eyePrefix c.name = none →
    c.name.fits s.reader.cursor c.bytes.length s.regs.bases.cueSize = true →
    s.stateFault c = none → s.holdOf c = none → s.verdict = .ready c) ∧
  (∀ s : State, s.reader.buffer = [] → s.verdict = .needByte) ∧
  ∀ (code : Byte) (rest : List Byte) (s : State), s.reader.buffer = code :: rest →
    let r := s.reader
    let size := s.regs.bases.cueSize
    let lengths := [(0x00#8, 1), (0x01#8, 1), (0x12#8, 1), (0x41#8, 1), (0x51#8, 1), (0x18#8, 2), (0x21#8, 2),
      (0x23#8, 2), (0x10#8, 8), (0x11#8, 8), (0x20#8, 8), (0x31#8, 8), (0x50#8, 8), (0x58#8, 8), (0x5C#8, 8),
      (0x30#8, 12), (0x32#8, 12), (0x33#8, 12), (0x40#8, 16)]
    let named : Prop := code = 0x22#8 ∨ ∃ length, (code, length) ∈ lengths
    let mayFollow : Prop := r.eyePrefix = none ∨ code ∈ [0x21#8, 0x23#8, 0x01#8, 0x00#8]
    (¬ named → s.verdict = .fault .unknownCue) ∧
    (r.eyePrefix ≠ none → code = 0x18#8 → s.verdict = .fault .prefixTwice) ∧
    (named → ¬ mayFollow → code ≠ 0x18#8 → s.verdict = .fault .prefixMisplaced) ∧
    (code = 0x22#8 → mayFollow →
      (size ≤ r.cursor + 4 → s.verdict = .fault .windowEnd) ∧
      (r.cursor + 4 < size → rest = [] → s.verdict = .stall) ∧
      (r.cursor + 4 < size → ∀ count more, rest = count :: more → 8 < count.toNat →
        s.verdict = .fault .badValue)) ∧
    ∀ length : Nat,
      (code, length) ∈ lengths ∨
        (code = 0x22#8 ∧ ∃ count more, rest = count :: more ∧ count.toNat ≤ 8 ∧ length = 4 + 2 * count.toNat) →
      mayFollow →
      let fits : Prop := (code = 0x00#8 ∨ code = 0x12#8) ∨ (code = 0x10#8 ∧ r.cursor + 8 ≤ size) ∨
        r.cursor + length < size
      let height := s.settings.format.height
      let bytes := r.buffer.take length
      let room : Bool := decide (s.writer.held.length + s.writer.reserved < 8)
      let judged := fun c : Cue => match c with
        | .call _ => if r.stack.length < 4 then Verdict.ready c else .fault .callDepth
        | .ret => if r.stack = [] then .fault .returnEmpty else .ready c
        | .openTake _ =>
          if s.matcher.take = .opened then .fault .takeNested
          else if s.matcher.take = .closing then .hold c .takeClosing
          else if room then .ready c else .hold c .resultRoom
        | .closeTake =>
          if s.matcher.take = .opened then .ready c
          else if s.matcher.take = .closed then .fault .noTake else .fault .takeNested
        | .target _ => if s.delivery.targets.length < 32 then .ready c else .hold c .targetRoom
        | .note _ | .recall => if room then .ready c else .hold c .resultRoom
        | .format _ | .orient _ | .probes _ => if s.matcher.take = .closed then .ready c else .hold c .takeActive
        | _ => .ready c
      let padded : Prop := ∀ i ∈ [1, 2, 3], byteAt bytes i = 0#8
      let tooLarge : Prop := ∃ f : FormatSetting, bytes = (Cue.format f).bytes ∧ 256 ≤ f.width ∧ f.width ≤ 4096 ∧
        f.width % 64 = 0 ∧ 128 ≤ f.height ∧ f.height ≤ 4096 ∧ 8 * 16777216 < f.width * f.height * f.depth.bits
      (¬ fits → s.verdict = .fault .windowEnd) ∧
      (fits → r.buffer.length < length → s.verdict = .stall) ∧
      (fits → length ≤ r.buffer.length → size ≤ 1048576 → height ≤ 4096 →
        (∀ c : Cue, c.inRange size height = true → bytes = c.bytes → s.verdict = judged c) ∧
        ((∀ c : Cue, c.inRange size height = true → bytes ≠ c.bytes) →
          (code = 0x10#8 ∨ code = 0x11#8 → padded → s.verdict = .fault .jumpRange) ∧
          (code = 0x20#8 → tooLarge → s.verdict = .fault .formatTooLarge) ∧
          (¬ ((code = 0x10#8 ∨ code = 0x11#8) ∧ padded) → ¬ tooLarge → s.verdict = .fault .badValue)))

/-! ### What every step keeps -/

/-- Every step keeps slot memory in its canonical form. -/
def Obligations.StepKeepsMemory : Prop :=
  ∀ s t : State, Memory.wf s.store.mem = true → step s = .next t → Memory.wf t.store.mem = true

/-- Every step keeps the room of every collection: the pending-results queue at 8 records and reservations together,
with a place reserved exactly while a delivery is in flight (R123, R124); the pair table, the target list, the return
stack, the sample stacks and the mark histories (R6, R61, R85, R110, R145); the prefetch buffer at 32 bytes, with room
for a fetch in flight (R136, R137). -/
def Obligations.StepKeepsBounds : Prop :=
  ∀ s t : State, s.placesSound → s.roomSound → s.bufferSound → step s = .next t →
    t.placesSound ∧ t.roomSound ∧ t.bufferSound

/-- Every step keeps the pool at N slots and each eye queue at 8 frames, at 7 while its eye fills a slot (R21, R25,
R27), and with them every claimed slot at its one owner: queued numbers and QUEUED slots, filling frames and FILLING
slots, entries and HELD slots (R22, R24, R27, R28). -/
def Obligations.StepKeepsPool : Prop :=
  (∀ s t : State, s.poolSound → step s = .next t → t.poolSound) ∧
  ∀ s t : State, s.poolSound → s.slotsSound → step s = .next t → t.slotsSound

/-- Every step keeps every setting within the ranges of its cue, and the offset tracker within −16..+16 (R100, R161,
R162). -/
def Obligations.StepKeepsSettings : Prop :=
  ∀ s t : State, s.settingsSound → s.trackerSound → step s = .next t → t.settingsSound ∧ t.trackerSound

/-- Every step keeps the Pace Generator coherent: a loss deadline in REFERENCED, a timer in HOLDOVER and FREE, FREE for
ever under ABSENT (R40 to R45). -/
def Obligations.StepKeepsPace : Prop :=
  ∀ s t : State, s.paceSound → step s = .next t → t.paceSound

/-- In IDLE every step leaves the blocks at rest: all slots FREE, the queues, tables and lists empty, the receivers OFF,
nothing in flight (R194). -/
def Obligations.StepKeepsIdle : Prop :=
  ∀ s t : State, s.idleSound → step s = .next t → t.idleSound

/-- The machine after reset satisfies all that every step keeps. -/
def Obligations.ResetIsSound : Prop :=
  Memory.wf State.reset.store.mem = true ∧ State.reset.placesSound ∧ State.reset.roomSound ∧
  State.reset.bufferSound ∧ State.reset.poolSound ∧ State.reset.slotsSound ∧ State.reset.settingsSound ∧
  State.reset.trackerSound ∧ State.reset.paceSound ∧ State.reset.idleSound

end
end

