-- ==== Sys2Proof/Laws/State.lean ====
section
/-! SUPPORT. One lemma for each field under each update of State, true by rfl. -/

namespace Sys2Proof.Machine

section
variable (s : State) (f : Settings → Settings)
@[simp] theorem State.onSettings_pending : (s.onSettings f).pending = s.pending := rfl
@[simp] theorem State.onSettings_straps : (s.onSettings f).straps = s.straps := rfl
@[simp] theorem State.onSettings_settings : (s.onSettings f).settings = f s.settings := rfl
@[simp] theorem State.onSettings_regs : (s.onSettings f).regs = s.regs := rfl
@[simp] theorem State.onSettings_carried : (s.onSettings f).carried = s.carried := rfl
@[simp] theorem State.onSettings_left : (s.onSettings f).left = s.left := rfl
@[simp] theorem State.onSettings_right : (s.onSettings f).right = s.right := rfl
@[simp] theorem State.onSettings_store : (s.onSettings f).store = s.store := rfl
@[simp] theorem State.onSettings_pace : (s.onSettings f).pace = s.pace := rfl
@[simp] theorem State.onSettings_matcher : (s.onSettings f).matcher = s.matcher := rfl
@[simp] theorem State.onSettings_leftLens : (s.onSettings f).leftLens = s.leftLens := rfl
@[simp] theorem State.onSettings_rightLens : (s.onSettings f).rightLens = s.rightLens := rfl
@[simp] theorem State.onSettings_rig : (s.onSettings f).rig = s.rig := rfl
@[simp] theorem State.onSettings_align : (s.onSettings f).align = s.align := rfl
@[simp] theorem State.onSettings_delivery : (s.onSettings f).delivery = s.delivery := rfl
@[simp] theorem State.onSettings_writer : (s.onSettings f).writer = s.writer := rfl
@[simp] theorem State.onSettings_reader : (s.onSettings f).reader = s.reader := rfl
end

section
variable (s : State) (f : RegisterWindow → RegisterWindow)
@[simp] theorem State.onRegs_pending : (s.onRegs f).pending = s.pending := rfl
@[simp] theorem State.onRegs_straps : (s.onRegs f).straps = s.straps := rfl
@[simp] theorem State.onRegs_settings : (s.onRegs f).settings = s.settings := rfl
@[simp] theorem State.onRegs_regs : (s.onRegs f).regs = f s.regs := rfl
@[simp] theorem State.onRegs_carried : (s.onRegs f).carried = s.carried := rfl
@[simp] theorem State.onRegs_left : (s.onRegs f).left = s.left := rfl
@[simp] theorem State.onRegs_right : (s.onRegs f).right = s.right := rfl
@[simp] theorem State.onRegs_store : (s.onRegs f).store = s.store := rfl
@[simp] theorem State.onRegs_pace : (s.onRegs f).pace = s.pace := rfl
@[simp] theorem State.onRegs_matcher : (s.onRegs f).matcher = s.matcher := rfl
@[simp] theorem State.onRegs_leftLens : (s.onRegs f).leftLens = s.leftLens := rfl
@[simp] theorem State.onRegs_rightLens : (s.onRegs f).rightLens = s.rightLens := rfl
@[simp] theorem State.onRegs_rig : (s.onRegs f).rig = s.rig := rfl
@[simp] theorem State.onRegs_align : (s.onRegs f).align = s.align := rfl
@[simp] theorem State.onRegs_delivery : (s.onRegs f).delivery = s.delivery := rfl
@[simp] theorem State.onRegs_writer : (s.onRegs f).writer = s.writer := rfl
@[simp] theorem State.onRegs_reader : (s.onRegs f).reader = s.reader := rfl
end

section
variable (s : State) (f : FrameStore → FrameStore)
@[simp] theorem State.onStore_pending : (s.onStore f).pending = s.pending := rfl
@[simp] theorem State.onStore_straps : (s.onStore f).straps = s.straps := rfl
@[simp] theorem State.onStore_settings : (s.onStore f).settings = s.settings := rfl
@[simp] theorem State.onStore_regs : (s.onStore f).regs = s.regs := rfl
@[simp] theorem State.onStore_carried : (s.onStore f).carried = s.carried := rfl
@[simp] theorem State.onStore_left : (s.onStore f).left = s.left := rfl
@[simp] theorem State.onStore_right : (s.onStore f).right = s.right := rfl
@[simp] theorem State.onStore_store : (s.onStore f).store = f s.store := rfl
@[simp] theorem State.onStore_pace : (s.onStore f).pace = s.pace := rfl
@[simp] theorem State.onStore_matcher : (s.onStore f).matcher = s.matcher := rfl
@[simp] theorem State.onStore_leftLens : (s.onStore f).leftLens = s.leftLens := rfl
@[simp] theorem State.onStore_rightLens : (s.onStore f).rightLens = s.rightLens := rfl
@[simp] theorem State.onStore_rig : (s.onStore f).rig = s.rig := rfl
@[simp] theorem State.onStore_align : (s.onStore f).align = s.align := rfl
@[simp] theorem State.onStore_delivery : (s.onStore f).delivery = s.delivery := rfl
@[simp] theorem State.onStore_writer : (s.onStore f).writer = s.writer := rfl
@[simp] theorem State.onStore_reader : (s.onStore f).reader = s.reader := rfl
end

section
variable (s : State) (f : PaceGenerator → PaceGenerator)
@[simp] theorem State.onPace_pending : (s.onPace f).pending = s.pending := rfl
@[simp] theorem State.onPace_straps : (s.onPace f).straps = s.straps := rfl
@[simp] theorem State.onPace_settings : (s.onPace f).settings = s.settings := rfl
@[simp] theorem State.onPace_regs : (s.onPace f).regs = s.regs := rfl
@[simp] theorem State.onPace_carried : (s.onPace f).carried = s.carried := rfl
@[simp] theorem State.onPace_left : (s.onPace f).left = s.left := rfl
@[simp] theorem State.onPace_right : (s.onPace f).right = s.right := rfl
@[simp] theorem State.onPace_store : (s.onPace f).store = s.store := rfl
@[simp] theorem State.onPace_pace : (s.onPace f).pace = f s.pace := rfl
@[simp] theorem State.onPace_matcher : (s.onPace f).matcher = s.matcher := rfl
@[simp] theorem State.onPace_leftLens : (s.onPace f).leftLens = s.leftLens := rfl
@[simp] theorem State.onPace_rightLens : (s.onPace f).rightLens = s.rightLens := rfl
@[simp] theorem State.onPace_rig : (s.onPace f).rig = s.rig := rfl
@[simp] theorem State.onPace_align : (s.onPace f).align = s.align := rfl
@[simp] theorem State.onPace_delivery : (s.onPace f).delivery = s.delivery := rfl
@[simp] theorem State.onPace_writer : (s.onPace f).writer = s.writer := rfl
@[simp] theorem State.onPace_reader : (s.onPace f).reader = s.reader := rfl
end

section
variable (s : State) (f : PairMatcher → PairMatcher)
@[simp] theorem State.onMatcher_pending : (s.onMatcher f).pending = s.pending := rfl
@[simp] theorem State.onMatcher_straps : (s.onMatcher f).straps = s.straps := rfl
@[simp] theorem State.onMatcher_settings : (s.onMatcher f).settings = s.settings := rfl
@[simp] theorem State.onMatcher_regs : (s.onMatcher f).regs = s.regs := rfl
@[simp] theorem State.onMatcher_carried : (s.onMatcher f).carried = s.carried := rfl
@[simp] theorem State.onMatcher_left : (s.onMatcher f).left = s.left := rfl
@[simp] theorem State.onMatcher_right : (s.onMatcher f).right = s.right := rfl
@[simp] theorem State.onMatcher_store : (s.onMatcher f).store = s.store := rfl
@[simp] theorem State.onMatcher_pace : (s.onMatcher f).pace = s.pace := rfl
@[simp] theorem State.onMatcher_matcher : (s.onMatcher f).matcher = f s.matcher := rfl
@[simp] theorem State.onMatcher_leftLens : (s.onMatcher f).leftLens = s.leftLens := rfl
@[simp] theorem State.onMatcher_rightLens : (s.onMatcher f).rightLens = s.rightLens := rfl
@[simp] theorem State.onMatcher_rig : (s.onMatcher f).rig = s.rig := rfl
@[simp] theorem State.onMatcher_align : (s.onMatcher f).align = s.align := rfl
@[simp] theorem State.onMatcher_delivery : (s.onMatcher f).delivery = s.delivery := rfl
@[simp] theorem State.onMatcher_writer : (s.onMatcher f).writer = s.writer := rfl
@[simp] theorem State.onMatcher_reader : (s.onMatcher f).reader = s.reader := rfl
end

section
variable (s : State) (f : AlignmentUnit → AlignmentUnit)
@[simp] theorem State.onAlign_pending : (s.onAlign f).pending = s.pending := rfl
@[simp] theorem State.onAlign_straps : (s.onAlign f).straps = s.straps := rfl
@[simp] theorem State.onAlign_settings : (s.onAlign f).settings = s.settings := rfl
@[simp] theorem State.onAlign_regs : (s.onAlign f).regs = s.regs := rfl
@[simp] theorem State.onAlign_carried : (s.onAlign f).carried = s.carried := rfl
@[simp] theorem State.onAlign_left : (s.onAlign f).left = s.left := rfl
@[simp] theorem State.onAlign_right : (s.onAlign f).right = s.right := rfl
@[simp] theorem State.onAlign_store : (s.onAlign f).store = s.store := rfl
@[simp] theorem State.onAlign_pace : (s.onAlign f).pace = s.pace := rfl
@[simp] theorem State.onAlign_matcher : (s.onAlign f).matcher = s.matcher := rfl
@[simp] theorem State.onAlign_leftLens : (s.onAlign f).leftLens = s.leftLens := rfl
@[simp] theorem State.onAlign_rightLens : (s.onAlign f).rightLens = s.rightLens := rfl
@[simp] theorem State.onAlign_rig : (s.onAlign f).rig = s.rig := rfl
@[simp] theorem State.onAlign_align : (s.onAlign f).align = f s.align := rfl
@[simp] theorem State.onAlign_delivery : (s.onAlign f).delivery = s.delivery := rfl
@[simp] theorem State.onAlign_writer : (s.onAlign f).writer = s.writer := rfl
@[simp] theorem State.onAlign_reader : (s.onAlign f).reader = s.reader := rfl
end

section
variable (s : State) (f : DeliveryEngine → DeliveryEngine)
@[simp] theorem State.onDelivery_pending : (s.onDelivery f).pending = s.pending := rfl
@[simp] theorem State.onDelivery_straps : (s.onDelivery f).straps = s.straps := rfl
@[simp] theorem State.onDelivery_settings : (s.onDelivery f).settings = s.settings := rfl
@[simp] theorem State.onDelivery_regs : (s.onDelivery f).regs = s.regs := rfl
@[simp] theorem State.onDelivery_carried : (s.onDelivery f).carried = s.carried := rfl
@[simp] theorem State.onDelivery_left : (s.onDelivery f).left = s.left := rfl
@[simp] theorem State.onDelivery_right : (s.onDelivery f).right = s.right := rfl
@[simp] theorem State.onDelivery_store : (s.onDelivery f).store = s.store := rfl
@[simp] theorem State.onDelivery_pace : (s.onDelivery f).pace = s.pace := rfl
@[simp] theorem State.onDelivery_matcher : (s.onDelivery f).matcher = s.matcher := rfl
@[simp] theorem State.onDelivery_leftLens : (s.onDelivery f).leftLens = s.leftLens := rfl
@[simp] theorem State.onDelivery_rightLens : (s.onDelivery f).rightLens = s.rightLens := rfl
@[simp] theorem State.onDelivery_rig : (s.onDelivery f).rig = s.rig := rfl
@[simp] theorem State.onDelivery_align : (s.onDelivery f).align = s.align := rfl
@[simp] theorem State.onDelivery_delivery : (s.onDelivery f).delivery = f s.delivery := rfl
@[simp] theorem State.onDelivery_writer : (s.onDelivery f).writer = s.writer := rfl
@[simp] theorem State.onDelivery_reader : (s.onDelivery f).reader = s.reader := rfl
end

section
variable (s : State) (f : ResultWriter → ResultWriter)
@[simp] theorem State.onWriter_pending : (s.onWriter f).pending = s.pending := rfl
@[simp] theorem State.onWriter_straps : (s.onWriter f).straps = s.straps := rfl
@[simp] theorem State.onWriter_settings : (s.onWriter f).settings = s.settings := rfl
@[simp] theorem State.onWriter_regs : (s.onWriter f).regs = s.regs := rfl
@[simp] theorem State.onWriter_carried : (s.onWriter f).carried = s.carried := rfl
@[simp] theorem State.onWriter_left : (s.onWriter f).left = s.left := rfl
@[simp] theorem State.onWriter_right : (s.onWriter f).right = s.right := rfl
@[simp] theorem State.onWriter_store : (s.onWriter f).store = s.store := rfl
@[simp] theorem State.onWriter_pace : (s.onWriter f).pace = s.pace := rfl
@[simp] theorem State.onWriter_matcher : (s.onWriter f).matcher = s.matcher := rfl
@[simp] theorem State.onWriter_leftLens : (s.onWriter f).leftLens = s.leftLens := rfl
@[simp] theorem State.onWriter_rightLens : (s.onWriter f).rightLens = s.rightLens := rfl
@[simp] theorem State.onWriter_rig : (s.onWriter f).rig = s.rig := rfl
@[simp] theorem State.onWriter_align : (s.onWriter f).align = s.align := rfl
@[simp] theorem State.onWriter_delivery : (s.onWriter f).delivery = s.delivery := rfl
@[simp] theorem State.onWriter_writer : (s.onWriter f).writer = f s.writer := rfl
@[simp] theorem State.onWriter_reader : (s.onWriter f).reader = s.reader := rfl
end

section
variable (s : State) (f : CueReader → CueReader)
@[simp] theorem State.onReader_pending : (s.onReader f).pending = s.pending := rfl
@[simp] theorem State.onReader_straps : (s.onReader f).straps = s.straps := rfl
@[simp] theorem State.onReader_settings : (s.onReader f).settings = s.settings := rfl
@[simp] theorem State.onReader_regs : (s.onReader f).regs = s.regs := rfl
@[simp] theorem State.onReader_carried : (s.onReader f).carried = s.carried := rfl
@[simp] theorem State.onReader_left : (s.onReader f).left = s.left := rfl
@[simp] theorem State.onReader_right : (s.onReader f).right = s.right := rfl
@[simp] theorem State.onReader_store : (s.onReader f).store = s.store := rfl
@[simp] theorem State.onReader_pace : (s.onReader f).pace = s.pace := rfl
@[simp] theorem State.onReader_matcher : (s.onReader f).matcher = s.matcher := rfl
@[simp] theorem State.onReader_leftLens : (s.onReader f).leftLens = s.leftLens := rfl
@[simp] theorem State.onReader_rightLens : (s.onReader f).rightLens = s.rightLens := rfl
@[simp] theorem State.onReader_rig : (s.onReader f).rig = s.rig := rfl
@[simp] theorem State.onReader_align : (s.onReader f).align = s.align := rfl
@[simp] theorem State.onReader_delivery : (s.onReader f).delivery = s.delivery := rfl
@[simp] theorem State.onReader_writer : (s.onReader f).writer = s.writer := rfl
@[simp] theorem State.onReader_reader : (s.onReader f).reader = f s.reader := rfl
end

section
variable (s : State) (b : BusItem)
@[simp] theorem State.carry_pending : (s.carry b).pending = s.pending := rfl
@[simp] theorem State.carry_straps : (s.carry b).straps = s.straps := rfl
@[simp] theorem State.carry_settings : (s.carry b).settings = s.settings := rfl
@[simp] theorem State.carry_regs : (s.carry b).regs = s.regs := rfl
@[simp] theorem State.carry_carried : (s.carry b).carried = s.carried ++ [b] := rfl
@[simp] theorem State.carry_left : (s.carry b).left = s.left := rfl
@[simp] theorem State.carry_right : (s.carry b).right = s.right := rfl
@[simp] theorem State.carry_store : (s.carry b).store = s.store := rfl
@[simp] theorem State.carry_pace : (s.carry b).pace = s.pace := rfl
@[simp] theorem State.carry_matcher : (s.carry b).matcher = s.matcher := rfl
@[simp] theorem State.carry_leftLens : (s.carry b).leftLens = s.leftLens := rfl
@[simp] theorem State.carry_rightLens : (s.carry b).rightLens = s.rightLens := rfl
@[simp] theorem State.carry_rig : (s.carry b).rig = s.rig := rfl
@[simp] theorem State.carry_align : (s.carry b).align = s.align := rfl
@[simp] theorem State.carry_delivery : (s.carry b).delivery = s.delivery := rfl
@[simp] theorem State.carry_writer : (s.carry b).writer = s.writer := rfl
@[simp] theorem State.carry_reader : (s.carry b).reader = s.reader := rfl
end

section
variable (s : State) (f : Receiver → Receiver)
@[simp] theorem State.onReceiver_left_pending : (s.onReceiver .left f).pending = s.pending := rfl
@[simp] theorem State.onReceiver_left_straps : (s.onReceiver .left f).straps = s.straps := rfl
@[simp] theorem State.onReceiver_left_settings : (s.onReceiver .left f).settings = s.settings := rfl
@[simp] theorem State.onReceiver_left_regs : (s.onReceiver .left f).regs = s.regs := rfl
@[simp] theorem State.onReceiver_left_carried : (s.onReceiver .left f).carried = s.carried := rfl
@[simp] theorem State.onReceiver_left_left : (s.onReceiver .left f).left = f s.left := rfl
@[simp] theorem State.onReceiver_left_right : (s.onReceiver .left f).right = s.right := rfl
@[simp] theorem State.onReceiver_left_store : (s.onReceiver .left f).store = s.store := rfl
@[simp] theorem State.onReceiver_left_pace : (s.onReceiver .left f).pace = s.pace := rfl
@[simp] theorem State.onReceiver_left_matcher : (s.onReceiver .left f).matcher = s.matcher := rfl
@[simp] theorem State.onReceiver_left_leftLens : (s.onReceiver .left f).leftLens = s.leftLens := rfl
@[simp] theorem State.onReceiver_left_rightLens : (s.onReceiver .left f).rightLens = s.rightLens := rfl
@[simp] theorem State.onReceiver_left_rig : (s.onReceiver .left f).rig = s.rig := rfl
@[simp] theorem State.onReceiver_left_align : (s.onReceiver .left f).align = s.align := rfl
@[simp] theorem State.onReceiver_left_delivery : (s.onReceiver .left f).delivery = s.delivery := rfl
@[simp] theorem State.onReceiver_left_writer : (s.onReceiver .left f).writer = s.writer := rfl
@[simp] theorem State.onReceiver_left_reader : (s.onReceiver .left f).reader = s.reader := rfl
@[simp] theorem State.receiver_left : s.receiver .left = s.left := rfl
@[simp] theorem State.onReceiver_right_pending : (s.onReceiver .right f).pending = s.pending := rfl
@[simp] theorem State.onReceiver_right_straps : (s.onReceiver .right f).straps = s.straps := rfl
@[simp] theorem State.onReceiver_right_settings : (s.onReceiver .right f).settings = s.settings := rfl
@[simp] theorem State.onReceiver_right_regs : (s.onReceiver .right f).regs = s.regs := rfl
@[simp] theorem State.onReceiver_right_carried : (s.onReceiver .right f).carried = s.carried := rfl
@[simp] theorem State.onReceiver_right_left : (s.onReceiver .right f).left = s.left := rfl
@[simp] theorem State.onReceiver_right_right : (s.onReceiver .right f).right = f s.right := rfl
@[simp] theorem State.onReceiver_right_store : (s.onReceiver .right f).store = s.store := rfl
@[simp] theorem State.onReceiver_right_pace : (s.onReceiver .right f).pace = s.pace := rfl
@[simp] theorem State.onReceiver_right_matcher : (s.onReceiver .right f).matcher = s.matcher := rfl
@[simp] theorem State.onReceiver_right_leftLens : (s.onReceiver .right f).leftLens = s.leftLens := rfl
@[simp] theorem State.onReceiver_right_rightLens : (s.onReceiver .right f).rightLens = s.rightLens := rfl
@[simp] theorem State.onReceiver_right_rig : (s.onReceiver .right f).rig = s.rig := rfl
@[simp] theorem State.onReceiver_right_align : (s.onReceiver .right f).align = s.align := rfl
@[simp] theorem State.onReceiver_right_delivery : (s.onReceiver .right f).delivery = s.delivery := rfl
@[simp] theorem State.onReceiver_right_writer : (s.onReceiver .right f).writer = s.writer := rfl
@[simp] theorem State.onReceiver_right_reader : (s.onReceiver .right f).reader = s.reader := rfl
@[simp] theorem State.receiver_right : s.receiver .right = s.right := rfl
end

section
variable (s : State) (f : SamplePort → SamplePort)
@[simp] theorem State.onPort_leftLens_pending : (s.onPort .leftLens f).pending = s.pending := rfl
@[simp] theorem State.onPort_leftLens_straps : (s.onPort .leftLens f).straps = s.straps := rfl
@[simp] theorem State.onPort_leftLens_settings : (s.onPort .leftLens f).settings = s.settings := rfl
@[simp] theorem State.onPort_leftLens_regs : (s.onPort .leftLens f).regs = s.regs := rfl
@[simp] theorem State.onPort_leftLens_carried : (s.onPort .leftLens f).carried = s.carried := rfl
@[simp] theorem State.onPort_leftLens_left : (s.onPort .leftLens f).left = s.left := rfl
@[simp] theorem State.onPort_leftLens_right : (s.onPort .leftLens f).right = s.right := rfl
@[simp] theorem State.onPort_leftLens_store : (s.onPort .leftLens f).store = s.store := rfl
@[simp] theorem State.onPort_leftLens_pace : (s.onPort .leftLens f).pace = s.pace := rfl
@[simp] theorem State.onPort_leftLens_matcher : (s.onPort .leftLens f).matcher = s.matcher := rfl
@[simp] theorem State.onPort_leftLens_leftLens : (s.onPort .leftLens f).leftLens = f s.leftLens := rfl
@[simp] theorem State.onPort_leftLens_rightLens : (s.onPort .leftLens f).rightLens = s.rightLens := rfl
@[simp] theorem State.onPort_leftLens_rig : (s.onPort .leftLens f).rig = s.rig := rfl
@[simp] theorem State.onPort_leftLens_align : (s.onPort .leftLens f).align = s.align := rfl
@[simp] theorem State.onPort_leftLens_delivery : (s.onPort .leftLens f).delivery = s.delivery := rfl
@[simp] theorem State.onPort_leftLens_writer : (s.onPort .leftLens f).writer = s.writer := rfl
@[simp] theorem State.onPort_leftLens_reader : (s.onPort .leftLens f).reader = s.reader := rfl
@[simp] theorem State.port_leftLens : s.port .leftLens = s.leftLens := rfl
@[simp] theorem State.onPort_rightLens_pending : (s.onPort .rightLens f).pending = s.pending := rfl
@[simp] theorem State.onPort_rightLens_straps : (s.onPort .rightLens f).straps = s.straps := rfl
@[simp] theorem State.onPort_rightLens_settings : (s.onPort .rightLens f).settings = s.settings := rfl
@[simp] theorem State.onPort_rightLens_regs : (s.onPort .rightLens f).regs = s.regs := rfl
@[simp] theorem State.onPort_rightLens_carried : (s.onPort .rightLens f).carried = s.carried := rfl
@[simp] theorem State.onPort_rightLens_left : (s.onPort .rightLens f).left = s.left := rfl
@[simp] theorem State.onPort_rightLens_right : (s.onPort .rightLens f).right = s.right := rfl
@[simp] theorem State.onPort_rightLens_store : (s.onPort .rightLens f).store = s.store := rfl
@[simp] theorem State.onPort_rightLens_pace : (s.onPort .rightLens f).pace = s.pace := rfl
@[simp] theorem State.onPort_rightLens_matcher : (s.onPort .rightLens f).matcher = s.matcher := rfl
@[simp] theorem State.onPort_rightLens_leftLens : (s.onPort .rightLens f).leftLens = s.leftLens := rfl
@[simp] theorem State.onPort_rightLens_rightLens : (s.onPort .rightLens f).rightLens = f s.rightLens := rfl
@[simp] theorem State.onPort_rightLens_rig : (s.onPort .rightLens f).rig = s.rig := rfl
@[simp] theorem State.onPort_rightLens_align : (s.onPort .rightLens f).align = s.align := rfl
@[simp] theorem State.onPort_rightLens_delivery : (s.onPort .rightLens f).delivery = s.delivery := rfl
@[simp] theorem State.onPort_rightLens_writer : (s.onPort .rightLens f).writer = s.writer := rfl
@[simp] theorem State.onPort_rightLens_reader : (s.onPort .rightLens f).reader = s.reader := rfl
@[simp] theorem State.port_rightLens : s.port .rightLens = s.rightLens := rfl
@[simp] theorem State.onPort_rig_pending : (s.onPort .rig f).pending = s.pending := rfl
@[simp] theorem State.onPort_rig_straps : (s.onPort .rig f).straps = s.straps := rfl
@[simp] theorem State.onPort_rig_settings : (s.onPort .rig f).settings = s.settings := rfl
@[simp] theorem State.onPort_rig_regs : (s.onPort .rig f).regs = s.regs := rfl
@[simp] theorem State.onPort_rig_carried : (s.onPort .rig f).carried = s.carried := rfl
@[simp] theorem State.onPort_rig_left : (s.onPort .rig f).left = s.left := rfl
@[simp] theorem State.onPort_rig_right : (s.onPort .rig f).right = s.right := rfl
@[simp] theorem State.onPort_rig_store : (s.onPort .rig f).store = s.store := rfl
@[simp] theorem State.onPort_rig_pace : (s.onPort .rig f).pace = s.pace := rfl
@[simp] theorem State.onPort_rig_matcher : (s.onPort .rig f).matcher = s.matcher := rfl
@[simp] theorem State.onPort_rig_leftLens : (s.onPort .rig f).leftLens = s.leftLens := rfl
@[simp] theorem State.onPort_rig_rightLens : (s.onPort .rig f).rightLens = s.rightLens := rfl
@[simp] theorem State.onPort_rig_rig : (s.onPort .rig f).rig = f s.rig := rfl
@[simp] theorem State.onPort_rig_align : (s.onPort .rig f).align = s.align := rfl
@[simp] theorem State.onPort_rig_delivery : (s.onPort .rig f).delivery = s.delivery := rfl
@[simp] theorem State.onPort_rig_writer : (s.onPort .rig f).writer = s.writer := rfl
@[simp] theorem State.onPort_rig_reader : (s.onPort .rig f).reader = s.reader := rfl
@[simp] theorem State.port_rig : s.port .rig = s.rig := rfl
end

section
variable (s : State) (e : Eye) (f : Receiver → Receiver)
@[simp] theorem State.onReceiver_pending : (s.onReceiver e f).pending = s.pending := by cases e <;> rfl
@[simp] theorem State.onReceiver_straps : (s.onReceiver e f).straps = s.straps := by cases e <;> rfl
@[simp] theorem State.onReceiver_settings : (s.onReceiver e f).settings = s.settings := by cases e <;> rfl
@[simp] theorem State.onReceiver_regs : (s.onReceiver e f).regs = s.regs := by cases e <;> rfl
@[simp] theorem State.onReceiver_carried : (s.onReceiver e f).carried = s.carried := by cases e <;> rfl
@[simp] theorem State.onReceiver_store : (s.onReceiver e f).store = s.store := by cases e <;> rfl
@[simp] theorem State.onReceiver_pace : (s.onReceiver e f).pace = s.pace := by cases e <;> rfl
@[simp] theorem State.onReceiver_matcher : (s.onReceiver e f).matcher = s.matcher := by cases e <;> rfl
@[simp] theorem State.onReceiver_leftLens : (s.onReceiver e f).leftLens = s.leftLens := by cases e <;> rfl
@[simp] theorem State.onReceiver_rightLens : (s.onReceiver e f).rightLens = s.rightLens := by cases e <;> rfl
@[simp] theorem State.onReceiver_rig : (s.onReceiver e f).rig = s.rig := by cases e <;> rfl
@[simp] theorem State.onReceiver_align : (s.onReceiver e f).align = s.align := by cases e <;> rfl
@[simp] theorem State.onReceiver_delivery : (s.onReceiver e f).delivery = s.delivery := by cases e <;> rfl
@[simp] theorem State.onReceiver_writer : (s.onReceiver e f).writer = s.writer := by cases e <;> rfl
@[simp] theorem State.onReceiver_reader : (s.onReceiver e f).reader = s.reader := by cases e <;> rfl
@[simp] theorem State.onReceiver_receiver : (s.onReceiver e f).receiver e = f (s.receiver e) := by cases e <;> rfl
end

section
variable (s : State) (p : PortId) (f : SamplePort → SamplePort)
@[simp] theorem State.onPort_pending : (s.onPort p f).pending = s.pending := by cases p <;> rfl
@[simp] theorem State.onPort_straps : (s.onPort p f).straps = s.straps := by cases p <;> rfl
@[simp] theorem State.onPort_settings : (s.onPort p f).settings = s.settings := by cases p <;> rfl
@[simp] theorem State.onPort_regs : (s.onPort p f).regs = s.regs := by cases p <;> rfl
@[simp] theorem State.onPort_carried : (s.onPort p f).carried = s.carried := by cases p <;> rfl
@[simp] theorem State.onPort_left : (s.onPort p f).left = s.left := by cases p <;> rfl
@[simp] theorem State.onPort_right : (s.onPort p f).right = s.right := by cases p <;> rfl
@[simp] theorem State.onPort_store : (s.onPort p f).store = s.store := by cases p <;> rfl
@[simp] theorem State.onPort_pace : (s.onPort p f).pace = s.pace := by cases p <;> rfl
@[simp] theorem State.onPort_matcher : (s.onPort p f).matcher = s.matcher := by cases p <;> rfl
@[simp] theorem State.onPort_align : (s.onPort p f).align = s.align := by cases p <;> rfl
@[simp] theorem State.onPort_delivery : (s.onPort p f).delivery = s.delivery := by cases p <;> rfl
@[simp] theorem State.onPort_writer : (s.onPort p f).writer = s.writer := by cases p <;> rfl
@[simp] theorem State.onPort_reader : (s.onPort p f).reader = s.reader := by cases p <;> rfl
@[simp] theorem State.onPort_port : (s.onPort p f).port p = f (s.port p) := by cases p <;> rfl
end

end Sys2Proof.Machine
end

