-- ==== Sys2Proof/Laws/Shared.lean ====
section
/-! SUPPORT. What the shared operations leave as it was, once for each operation: causes, records, disposal passes,
sync changes, pace ticks, and the decode that follows a cue. -/

namespace Sys2Proof.Machine

/-! Causes and the interrupt (R197, R198) -/
section
variable (s : State) (c e : BitVec 9)
@[simp] theorem State.setIrq_pending : (s.setIrq c e).pending = s.pending := by unfold State.setIrq; dsimp only; split <;> rfl
@[simp] theorem State.setIrq_straps : (s.setIrq c e).straps = s.straps := by unfold State.setIrq; dsimp only; split <;> rfl
@[simp] theorem State.setIrq_settings : (s.setIrq c e).settings = s.settings := by unfold State.setIrq; dsimp only; split <;> rfl
@[simp] theorem State.setIrq_left : (s.setIrq c e).left = s.left := by unfold State.setIrq; dsimp only; split <;> rfl
@[simp] theorem State.setIrq_right : (s.setIrq c e).right = s.right := by unfold State.setIrq; dsimp only; split <;> rfl
@[simp] theorem State.setIrq_store : (s.setIrq c e).store = s.store := by unfold State.setIrq; dsimp only; split <;> rfl
@[simp] theorem State.setIrq_pace : (s.setIrq c e).pace = s.pace := by unfold State.setIrq; dsimp only; split <;> rfl
@[simp] theorem State.setIrq_matcher : (s.setIrq c e).matcher = s.matcher := by unfold State.setIrq; dsimp only; split <;> rfl
@[simp] theorem State.setIrq_leftLens : (s.setIrq c e).leftLens = s.leftLens := by unfold State.setIrq; dsimp only; split <;> rfl
@[simp] theorem State.setIrq_rightLens : (s.setIrq c e).rightLens = s.rightLens := by unfold State.setIrq; dsimp only; split <;> rfl
@[simp] theorem State.setIrq_rig : (s.setIrq c e).rig = s.rig := by unfold State.setIrq; dsimp only; split <;> rfl
@[simp] theorem State.setIrq_align : (s.setIrq c e).align = s.align := by unfold State.setIrq; dsimp only; split <;> rfl
@[simp] theorem State.setIrq_delivery : (s.setIrq c e).delivery = s.delivery := by unfold State.setIrq; dsimp only; split <;> rfl
@[simp] theorem State.setIrq_writer : (s.setIrq c e).writer = s.writer := by unfold State.setIrq; dsimp only; split <;> rfl
@[simp] theorem State.setIrq_reader : (s.setIrq c e).reader = s.reader := by unfold State.setIrq; dsimp only; split <;> rfl
end

@[simp] theorem State.setIrq_regs (s : State) (c e : BitVec 9) :
    (s.setIrq c e).regs = { s.regs with cause := c, enable := e } := by unfold State.setIrq; dsimp only; split <;> rfl

/-! A cause set -/
section
variable (s : State) (c : Cause)
@[simp] theorem State.setCause_pending : (s.setCause c).pending = s.pending := by unfold State.setCause; simp
@[simp] theorem State.setCause_straps : (s.setCause c).straps = s.straps := by unfold State.setCause; simp
@[simp] theorem State.setCause_settings : (s.setCause c).settings = s.settings := by unfold State.setCause; simp
@[simp] theorem State.setCause_left : (s.setCause c).left = s.left := by unfold State.setCause; simp
@[simp] theorem State.setCause_right : (s.setCause c).right = s.right := by unfold State.setCause; simp
@[simp] theorem State.setCause_store : (s.setCause c).store = s.store := by unfold State.setCause; simp
@[simp] theorem State.setCause_pace : (s.setCause c).pace = s.pace := by unfold State.setCause; simp
@[simp] theorem State.setCause_matcher : (s.setCause c).matcher = s.matcher := by unfold State.setCause; simp
@[simp] theorem State.setCause_leftLens : (s.setCause c).leftLens = s.leftLens := by unfold State.setCause; simp
@[simp] theorem State.setCause_rightLens : (s.setCause c).rightLens = s.rightLens := by unfold State.setCause; simp
@[simp] theorem State.setCause_rig : (s.setCause c).rig = s.rig := by unfold State.setCause; simp
@[simp] theorem State.setCause_align : (s.setCause c).align = s.align := by unfold State.setCause; simp
@[simp] theorem State.setCause_delivery : (s.setCause c).delivery = s.delivery := by unfold State.setCause; simp
@[simp] theorem State.setCause_writer : (s.setCause c).writer = s.writer := by unfold State.setCause; simp
@[simp] theorem State.setCause_reader : (s.setCause c).reader = s.reader := by unfold State.setCause; simp
end

@[simp] theorem State.setCause_regs (s : State) (c : Cause) :
    (s.setCause c).regs = { s.regs with cause := s.regs.cause ||| c.bit } := by unfold State.setCause; simp

/-! The head record judged (R129) -/
section
variable (s : State)
@[simp] theorem State.judgeHead_pending : (s.judgeHead).pending = s.pending := by unfold State.judgeHead; (repeat' split) <;> rfl
@[simp] theorem State.judgeHead_straps : (s.judgeHead).straps = s.straps := by unfold State.judgeHead; (repeat' split) <;> rfl
@[simp] theorem State.judgeHead_settings : (s.judgeHead).settings = s.settings := by unfold State.judgeHead; (repeat' split) <;> rfl
@[simp] theorem State.judgeHead_regs : (s.judgeHead).regs = s.regs := by unfold State.judgeHead; (repeat' split) <;> rfl
@[simp] theorem State.judgeHead_carried : (s.judgeHead).carried = s.carried := by unfold State.judgeHead; (repeat' split) <;> rfl
@[simp] theorem State.judgeHead_left : (s.judgeHead).left = s.left := by unfold State.judgeHead; (repeat' split) <;> rfl
@[simp] theorem State.judgeHead_right : (s.judgeHead).right = s.right := by unfold State.judgeHead; (repeat' split) <;> rfl
@[simp] theorem State.judgeHead_store : (s.judgeHead).store = s.store := by unfold State.judgeHead; (repeat' split) <;> rfl
@[simp] theorem State.judgeHead_pace : (s.judgeHead).pace = s.pace := by unfold State.judgeHead; (repeat' split) <;> rfl
@[simp] theorem State.judgeHead_matcher : (s.judgeHead).matcher = s.matcher := by unfold State.judgeHead; (repeat' split) <;> rfl
@[simp] theorem State.judgeHead_leftLens : (s.judgeHead).leftLens = s.leftLens := by unfold State.judgeHead; (repeat' split) <;> rfl
@[simp] theorem State.judgeHead_rightLens : (s.judgeHead).rightLens = s.rightLens := by unfold State.judgeHead; (repeat' split) <;> rfl
@[simp] theorem State.judgeHead_rig : (s.judgeHead).rig = s.rig := by unfold State.judgeHead; (repeat' split) <;> rfl
@[simp] theorem State.judgeHead_align : (s.judgeHead).align = s.align := by unfold State.judgeHead; (repeat' split) <;> rfl
@[simp] theorem State.judgeHead_delivery : (s.judgeHead).delivery = s.delivery := by unfold State.judgeHead; (repeat' split) <;> rfl
@[simp] theorem State.judgeHead_reader : (s.judgeHead).reader = s.reader := by unfold State.judgeHead; (repeat' split) <;> rfl
end

/-! A record placed (R124) -/
section
variable (s : State) (r : ResultRecord)
@[simp] theorem State.place_pending : (s.place r).pending = s.pending := by unfold State.place; dsimp only; split <;> simp
@[simp] theorem State.place_straps : (s.place r).straps = s.straps := by unfold State.place; dsimp only; split <;> simp
@[simp] theorem State.place_settings : (s.place r).settings = s.settings := by unfold State.place; dsimp only; split <;> simp
@[simp] theorem State.place_regs : (s.place r).regs = s.regs := by unfold State.place; dsimp only; split <;> simp
@[simp] theorem State.place_carried : (s.place r).carried = s.carried := by unfold State.place; dsimp only; split <;> simp
@[simp] theorem State.place_left : (s.place r).left = s.left := by unfold State.place; dsimp only; split <;> simp
@[simp] theorem State.place_right : (s.place r).right = s.right := by unfold State.place; dsimp only; split <;> simp
@[simp] theorem State.place_store : (s.place r).store = s.store := by unfold State.place; dsimp only; split <;> simp
@[simp] theorem State.place_pace : (s.place r).pace = s.pace := by unfold State.place; dsimp only; split <;> simp
@[simp] theorem State.place_matcher : (s.place r).matcher = s.matcher := by unfold State.place; dsimp only; split <;> simp
@[simp] theorem State.place_leftLens : (s.place r).leftLens = s.leftLens := by unfold State.place; dsimp only; split <;> simp
@[simp] theorem State.place_rightLens : (s.place r).rightLens = s.rightLens := by unfold State.place; dsimp only; split <;> simp
@[simp] theorem State.place_rig : (s.place r).rig = s.rig := by unfold State.place; dsimp only; split <;> simp
@[simp] theorem State.place_align : (s.place r).align = s.align := by unfold State.place; dsimp only; split <;> simp
@[simp] theorem State.place_delivery : (s.place r).delivery = s.delivery := by unfold State.place; dsimp only; split <;> simp
@[simp] theorem State.place_reader : (s.place r).reader = s.reader := by unfold State.place; dsimp only; split <;> simp
end

theorem State.judgeHead_held (s : State) : s.judgeHead.writer.held = s.writer.held := by
  unfold State.judgeHead State.issueRecord State.issueConsumed
  split
  · simp
  · split
    · simp
    · simp only [State.onWriter_writer]; split <;> rfl

theorem State.judgeHead_reserved (s : State) : s.judgeHead.writer.reserved = s.writer.reserved := by
  unfold State.judgeHead State.issueRecord State.issueConsumed
  split
  · simp
  · split
    · simp
    · simp only [State.onWriter_writer]; split <;> rfl

theorem State.judgeHead_nextSerial (s : State) : s.judgeHead.writer.nextSerial = s.writer.nextSerial := by
  unfold State.judgeHead State.issueRecord State.issueConsumed
  split
  · simp
  · split
    · simp
    · simp only [State.onWriter_writer]; split <;> rfl

/-- A placed record stands at the tail of the order (R123, R124). -/
theorem State.place_held (s : State) (r : ResultRecord) : (s.place r).writer.held = s.writer.held ++ [r] := by
  unfold State.place; dsimp only; split <;> simp [State.judgeHead_held]

theorem State.place_reserved (s : State) (r : ResultRecord) : (s.place r).writer.reserved = s.writer.reserved := by
  unfold State.place; dsimp only; split <;> simp [State.judgeHead_reserved]

theorem State.place_nextSerial (s : State) (r : ResultRecord) :
    (s.place r).writer.nextSerial = s.writer.nextSerial := by
  unfold State.place; dsimp only; split <;> simp [State.judgeHead_nextSerial]

/-! The close check, which may complete the close (R75, R76) -/
section
variable (s : State)
@[simp] theorem State.closeCheck_pending : s.closeCheck.pending = s.pending := by
  unfold State.closeCheck State.completeClose; split <;> simp
@[simp] theorem State.closeCheck_straps : s.closeCheck.straps = s.straps := by
  unfold State.closeCheck State.completeClose; split <;> simp
@[simp] theorem State.closeCheck_settings : s.closeCheck.settings = s.settings := by
  unfold State.closeCheck State.completeClose; split <;> simp
@[simp] theorem State.closeCheck_regs : s.closeCheck.regs = s.regs := by
  unfold State.closeCheck State.completeClose; split <;> simp
@[simp] theorem State.closeCheck_carried : s.closeCheck.carried = s.carried := by
  unfold State.closeCheck State.completeClose; split <;> simp
@[simp] theorem State.closeCheck_left : s.closeCheck.left = s.left := by
  unfold State.closeCheck State.completeClose; split <;> simp
@[simp] theorem State.closeCheck_right : s.closeCheck.right = s.right := by
  unfold State.closeCheck State.completeClose; split <;> simp
@[simp] theorem State.closeCheck_store : s.closeCheck.store = s.store := by
  unfold State.closeCheck State.completeClose; split <;> simp
@[simp] theorem State.closeCheck_pace : s.closeCheck.pace = s.pace := by
  unfold State.closeCheck State.completeClose; split <;> simp
@[simp] theorem State.closeCheck_leftLens : s.closeCheck.leftLens = s.leftLens := by
  unfold State.closeCheck State.completeClose; split <;> simp
@[simp] theorem State.closeCheck_rightLens : s.closeCheck.rightLens = s.rightLens := by
  unfold State.closeCheck State.completeClose; split <;> simp
@[simp] theorem State.closeCheck_rig : s.closeCheck.rig = s.rig := by
  unfold State.closeCheck State.completeClose; split <;> simp
@[simp] theorem State.closeCheck_align : s.closeCheck.align = s.align := by
  unfold State.closeCheck State.completeClose; split <;> simp
@[simp] theorem State.closeCheck_delivery : s.closeCheck.delivery = s.delivery := by
  unfold State.closeCheck State.completeClose; split <;> simp
end

/-! A disposal pass (R51): the Frame Store, the pair table, the Alignment Unit's occasion and causes. -/
theorem State.disposeOrphan_pending {s t : State} {e : Eye} {h : Nat × FrameRecord} (ht : s.disposeOrphan e h = some t) :
    t.pending = s.pending := by
  unfold State.disposeOrphan State.formOrphan State.releaseOrphan at ht
  split at ht
  · split at ht
    · cases ht; rfl
    · cases ht
  · cases ht; rfl

theorem State.examine_pending {s t : State} (ht : s.examine = some t) : t.pending = s.pending := by
  unfold State.examine at ht
  split at ht
  · cases ht
  · unfold State.bothHeads State.compareHeads at ht
    dsimp only at ht
    (repeat' split at ht) <;>
      first
      | exact State.disposeOrphan_pending ht
      | (cases ht; unfold State.formPair State.updateSkew; dsimp only; split <;> simp)
      | cases ht
  · unfold State.loneHead at ht; split at ht
    · cases ht
    · exact State.disposeOrphan_pending ht
  · unfold State.loneHead at ht; split at ht
    · cases ht
    · exact State.disposeOrphan_pending ht

theorem State.passSteps_pending (n : Nat) (s : State) : (State.passSteps n s).pending = s.pending := by
  induction n generalizing s with
  | zero => rfl
  | succ n ih =>
    unfold State.passSteps
    split
    · rfl
    · rename_i h; rw [ih, State.closeCheck_pending, State.examine_pending h]

@[simp] theorem State.pass_pending (s : State) : s.pass.pending = s.pending := by
  unfold State.pass; split
  · rfl
  · exact State.passSteps_pending _ _

@[simp] theorem State.dispose_pending (s : State) : s.dispose.pending = s.pending := by
  unfold State.dispose; rw [State.closeCheck_pending, State.pass_pending]

theorem State.disposeOrphan_straps {s t : State} {e : Eye} {h : Nat × FrameRecord} (ht : s.disposeOrphan e h = some t) :
    t.straps = s.straps := by
  unfold State.disposeOrphan State.formOrphan State.releaseOrphan at ht
  split at ht
  · split at ht
    · cases ht; rfl
    · cases ht
  · cases ht; rfl

theorem State.examine_straps {s t : State} (ht : s.examine = some t) : t.straps = s.straps := by
  unfold State.examine at ht
  split at ht
  · cases ht
  · unfold State.bothHeads State.compareHeads at ht
    dsimp only at ht
    (repeat' split at ht) <;>
      first
      | exact State.disposeOrphan_straps ht
      | (cases ht; unfold State.formPair State.updateSkew; dsimp only; split <;> simp)
      | cases ht
  · unfold State.loneHead at ht; split at ht
    · cases ht
    · exact State.disposeOrphan_straps ht
  · unfold State.loneHead at ht; split at ht
    · cases ht
    · exact State.disposeOrphan_straps ht

theorem State.passSteps_straps (n : Nat) (s : State) : (State.passSteps n s).straps = s.straps := by
  induction n generalizing s with
  | zero => rfl
  | succ n ih =>
    unfold State.passSteps
    split
    · rfl
    · rename_i h; rw [ih, State.closeCheck_straps, State.examine_straps h]

@[simp] theorem State.pass_straps (s : State) : s.pass.straps = s.straps := by
  unfold State.pass; split
  · rfl
  · exact State.passSteps_straps _ _

@[simp] theorem State.dispose_straps (s : State) : s.dispose.straps = s.straps := by
  unfold State.dispose; rw [State.closeCheck_straps, State.pass_straps]

theorem State.disposeOrphan_settings {s t : State} {e : Eye} {h : Nat × FrameRecord} (ht : s.disposeOrphan e h = some t) :
    t.settings = s.settings := by
  unfold State.disposeOrphan State.formOrphan State.releaseOrphan at ht
  split at ht
  · split at ht
    · cases ht; rfl
    · cases ht
  · cases ht; rfl

theorem State.examine_settings {s t : State} (ht : s.examine = some t) : t.settings = s.settings := by
  unfold State.examine at ht
  split at ht
  · cases ht
  · unfold State.bothHeads State.compareHeads at ht
    dsimp only at ht
    (repeat' split at ht) <;>
      first
      | exact State.disposeOrphan_settings ht
      | (cases ht; unfold State.formPair State.updateSkew; dsimp only; split <;> simp)
      | cases ht
  · unfold State.loneHead at ht; split at ht
    · cases ht
    · exact State.disposeOrphan_settings ht
  · unfold State.loneHead at ht; split at ht
    · cases ht
    · exact State.disposeOrphan_settings ht

theorem State.passSteps_settings (n : Nat) (s : State) : (State.passSteps n s).settings = s.settings := by
  induction n generalizing s with
  | zero => rfl
  | succ n ih =>
    unfold State.passSteps
    split
    · rfl
    · rename_i h; rw [ih, State.closeCheck_settings, State.examine_settings h]

@[simp] theorem State.pass_settings (s : State) : s.pass.settings = s.settings := by
  unfold State.pass; split
  · rfl
  · exact State.passSteps_settings _ _

@[simp] theorem State.dispose_settings (s : State) : s.dispose.settings = s.settings := by
  unfold State.dispose; rw [State.closeCheck_settings, State.pass_settings]

theorem State.disposeOrphan_left {s t : State} {e : Eye} {h : Nat × FrameRecord} (ht : s.disposeOrphan e h = some t) :
    t.left = s.left := by
  unfold State.disposeOrphan State.formOrphan State.releaseOrphan at ht
  split at ht
  · split at ht
    · cases ht; rfl
    · cases ht
  · cases ht; rfl

theorem State.examine_left {s t : State} (ht : s.examine = some t) : t.left = s.left := by
  unfold State.examine at ht
  split at ht
  · cases ht
  · unfold State.bothHeads State.compareHeads at ht
    dsimp only at ht
    (repeat' split at ht) <;>
      first
      | exact State.disposeOrphan_left ht
      | (cases ht; unfold State.formPair State.updateSkew; dsimp only; split <;> simp)
      | cases ht
  · unfold State.loneHead at ht; split at ht
    · cases ht
    · exact State.disposeOrphan_left ht
  · unfold State.loneHead at ht; split at ht
    · cases ht
    · exact State.disposeOrphan_left ht

theorem State.passSteps_left (n : Nat) (s : State) : (State.passSteps n s).left = s.left := by
  induction n generalizing s with
  | zero => rfl
  | succ n ih =>
    unfold State.passSteps
    split
    · rfl
    · rename_i h; rw [ih, State.closeCheck_left, State.examine_left h]

@[simp] theorem State.pass_left (s : State) : s.pass.left = s.left := by
  unfold State.pass; split
  · rfl
  · exact State.passSteps_left _ _

@[simp] theorem State.dispose_left (s : State) : s.dispose.left = s.left := by
  unfold State.dispose; rw [State.closeCheck_left, State.pass_left]

theorem State.disposeOrphan_right {s t : State} {e : Eye} {h : Nat × FrameRecord} (ht : s.disposeOrphan e h = some t) :
    t.right = s.right := by
  unfold State.disposeOrphan State.formOrphan State.releaseOrphan at ht
  split at ht
  · split at ht
    · cases ht; rfl
    · cases ht
  · cases ht; rfl

theorem State.examine_right {s t : State} (ht : s.examine = some t) : t.right = s.right := by
  unfold State.examine at ht
  split at ht
  · cases ht
  · unfold State.bothHeads State.compareHeads at ht
    dsimp only at ht
    (repeat' split at ht) <;>
      first
      | exact State.disposeOrphan_right ht
      | (cases ht; unfold State.formPair State.updateSkew; dsimp only; split <;> simp)
      | cases ht
  · unfold State.loneHead at ht; split at ht
    · cases ht
    · exact State.disposeOrphan_right ht
  · unfold State.loneHead at ht; split at ht
    · cases ht
    · exact State.disposeOrphan_right ht

theorem State.passSteps_right (n : Nat) (s : State) : (State.passSteps n s).right = s.right := by
  induction n generalizing s with
  | zero => rfl
  | succ n ih =>
    unfold State.passSteps
    split
    · rfl
    · rename_i h; rw [ih, State.closeCheck_right, State.examine_right h]

@[simp] theorem State.pass_right (s : State) : s.pass.right = s.right := by
  unfold State.pass; split
  · rfl
  · exact State.passSteps_right _ _

@[simp] theorem State.dispose_right (s : State) : s.dispose.right = s.right := by
  unfold State.dispose; rw [State.closeCheck_right, State.pass_right]

theorem State.disposeOrphan_pace {s t : State} {e : Eye} {h : Nat × FrameRecord} (ht : s.disposeOrphan e h = some t) :
    t.pace = s.pace := by
  unfold State.disposeOrphan State.formOrphan State.releaseOrphan at ht
  split at ht
  · split at ht
    · cases ht; rfl
    · cases ht
  · cases ht; rfl

theorem State.examine_pace {s t : State} (ht : s.examine = some t) : t.pace = s.pace := by
  unfold State.examine at ht
  split at ht
  · cases ht
  · unfold State.bothHeads State.compareHeads at ht
    dsimp only at ht
    (repeat' split at ht) <;>
      first
      | exact State.disposeOrphan_pace ht
      | (cases ht; unfold State.formPair State.updateSkew; dsimp only; split <;> simp)
      | cases ht
  · unfold State.loneHead at ht; split at ht
    · cases ht
    · exact State.disposeOrphan_pace ht
  · unfold State.loneHead at ht; split at ht
    · cases ht
    · exact State.disposeOrphan_pace ht

theorem State.passSteps_pace (n : Nat) (s : State) : (State.passSteps n s).pace = s.pace := by
  induction n generalizing s with
  | zero => rfl
  | succ n ih =>
    unfold State.passSteps
    split
    · rfl
    · rename_i h; rw [ih, State.closeCheck_pace, State.examine_pace h]

@[simp] theorem State.pass_pace (s : State) : s.pass.pace = s.pace := by
  unfold State.pass; split
  · rfl
  · exact State.passSteps_pace _ _

@[simp] theorem State.dispose_pace (s : State) : s.dispose.pace = s.pace := by
  unfold State.dispose; rw [State.closeCheck_pace, State.pass_pace]

theorem State.disposeOrphan_leftLens {s t : State} {e : Eye} {h : Nat × FrameRecord} (ht : s.disposeOrphan e h = some t) :
    t.leftLens = s.leftLens := by
  unfold State.disposeOrphan State.formOrphan State.releaseOrphan at ht
  split at ht
  · split at ht
    · cases ht; rfl
    · cases ht
  · cases ht; rfl

theorem State.examine_leftLens {s t : State} (ht : s.examine = some t) : t.leftLens = s.leftLens := by
  unfold State.examine at ht
  split at ht
  · cases ht
  · unfold State.bothHeads State.compareHeads at ht
    dsimp only at ht
    (repeat' split at ht) <;>
      first
      | exact State.disposeOrphan_leftLens ht
      | (cases ht; unfold State.formPair State.updateSkew; dsimp only; split <;> simp)
      | cases ht
  · unfold State.loneHead at ht; split at ht
    · cases ht
    · exact State.disposeOrphan_leftLens ht
  · unfold State.loneHead at ht; split at ht
    · cases ht
    · exact State.disposeOrphan_leftLens ht

theorem State.passSteps_leftLens (n : Nat) (s : State) : (State.passSteps n s).leftLens = s.leftLens := by
  induction n generalizing s with
  | zero => rfl
  | succ n ih =>
    unfold State.passSteps
    split
    · rfl
    · rename_i h; rw [ih, State.closeCheck_leftLens, State.examine_leftLens h]

@[simp] theorem State.pass_leftLens (s : State) : s.pass.leftLens = s.leftLens := by
  unfold State.pass; split
  · rfl
  · exact State.passSteps_leftLens _ _

@[simp] theorem State.dispose_leftLens (s : State) : s.dispose.leftLens = s.leftLens := by
  unfold State.dispose; rw [State.closeCheck_leftLens, State.pass_leftLens]

theorem State.disposeOrphan_rightLens {s t : State} {e : Eye} {h : Nat × FrameRecord} (ht : s.disposeOrphan e h = some t) :
    t.rightLens = s.rightLens := by
  unfold State.disposeOrphan State.formOrphan State.releaseOrphan at ht
  split at ht
  · split at ht
    · cases ht; rfl
    · cases ht
  · cases ht; rfl

theorem State.examine_rightLens {s t : State} (ht : s.examine = some t) : t.rightLens = s.rightLens := by
  unfold State.examine at ht
  split at ht
  · cases ht
  · unfold State.bothHeads State.compareHeads at ht
    dsimp only at ht
    (repeat' split at ht) <;>
      first
      | exact State.disposeOrphan_rightLens ht
      | (cases ht; unfold State.formPair State.updateSkew; dsimp only; split <;> simp)
      | cases ht
  · unfold State.loneHead at ht; split at ht
    · cases ht
    · exact State.disposeOrphan_rightLens ht
  · unfold State.loneHead at ht; split at ht
    · cases ht
    · exact State.disposeOrphan_rightLens ht

theorem State.passSteps_rightLens (n : Nat) (s : State) : (State.passSteps n s).rightLens = s.rightLens := by
  induction n generalizing s with
  | zero => rfl
  | succ n ih =>
    unfold State.passSteps
    split
    · rfl
    · rename_i h; rw [ih, State.closeCheck_rightLens, State.examine_rightLens h]

@[simp] theorem State.pass_rightLens (s : State) : s.pass.rightLens = s.rightLens := by
  unfold State.pass; split
  · rfl
  · exact State.passSteps_rightLens _ _

@[simp] theorem State.dispose_rightLens (s : State) : s.dispose.rightLens = s.rightLens := by
  unfold State.dispose; rw [State.closeCheck_rightLens, State.pass_rightLens]

theorem State.disposeOrphan_rig {s t : State} {e : Eye} {h : Nat × FrameRecord} (ht : s.disposeOrphan e h = some t) :
    t.rig = s.rig := by
  unfold State.disposeOrphan State.formOrphan State.releaseOrphan at ht
  split at ht
  · split at ht
    · cases ht; rfl
    · cases ht
  · cases ht; rfl

theorem State.examine_rig {s t : State} (ht : s.examine = some t) : t.rig = s.rig := by
  unfold State.examine at ht
  split at ht
  · cases ht
  · unfold State.bothHeads State.compareHeads at ht
    dsimp only at ht
    (repeat' split at ht) <;>
      first
      | exact State.disposeOrphan_rig ht
      | (cases ht; unfold State.formPair State.updateSkew; dsimp only; split <;> simp)
      | cases ht
  · unfold State.loneHead at ht; split at ht
    · cases ht
    · exact State.disposeOrphan_rig ht
  · unfold State.loneHead at ht; split at ht
    · cases ht
    · exact State.disposeOrphan_rig ht

theorem State.passSteps_rig (n : Nat) (s : State) : (State.passSteps n s).rig = s.rig := by
  induction n generalizing s with
  | zero => rfl
  | succ n ih =>
    unfold State.passSteps
    split
    · rfl
    · rename_i h; rw [ih, State.closeCheck_rig, State.examine_rig h]

@[simp] theorem State.pass_rig (s : State) : s.pass.rig = s.rig := by
  unfold State.pass; split
  · rfl
  · exact State.passSteps_rig _ _

@[simp] theorem State.dispose_rig (s : State) : s.dispose.rig = s.rig := by
  unfold State.dispose; rw [State.closeCheck_rig, State.pass_rig]

theorem State.disposeOrphan_delivery {s t : State} {e : Eye} {h : Nat × FrameRecord} (ht : s.disposeOrphan e h = some t) :
    t.delivery = s.delivery := by
  unfold State.disposeOrphan State.formOrphan State.releaseOrphan at ht
  split at ht
  · split at ht
    · cases ht; rfl
    · cases ht
  · cases ht; rfl

theorem State.examine_delivery {s t : State} (ht : s.examine = some t) : t.delivery = s.delivery := by
  unfold State.examine at ht
  split at ht
  · cases ht
  · unfold State.bothHeads State.compareHeads at ht
    dsimp only at ht
    (repeat' split at ht) <;>
      first
      | exact State.disposeOrphan_delivery ht
      | (cases ht; unfold State.formPair State.updateSkew; dsimp only; split <;> simp)
      | cases ht
  · unfold State.loneHead at ht; split at ht
    · cases ht
    · exact State.disposeOrphan_delivery ht
  · unfold State.loneHead at ht; split at ht
    · cases ht
    · exact State.disposeOrphan_delivery ht

theorem State.passSteps_delivery (n : Nat) (s : State) : (State.passSteps n s).delivery = s.delivery := by
  induction n generalizing s with
  | zero => rfl
  | succ n ih =>
    unfold State.passSteps
    split
    · rfl
    · rename_i h; rw [ih, State.closeCheck_delivery, State.examine_delivery h]

@[simp] theorem State.pass_delivery (s : State) : s.pass.delivery = s.delivery := by
  unfold State.pass; split
  · rfl
  · exact State.passSteps_delivery _ _

@[simp] theorem State.dispose_delivery (s : State) : s.dispose.delivery = s.delivery := by
  unfold State.dispose; rw [State.closeCheck_delivery, State.pass_delivery]

theorem State.disposeOrphan_writer {s t : State} {e : Eye} {h : Nat × FrameRecord} (ht : s.disposeOrphan e h = some t) :
    t.writer = s.writer := by
  unfold State.disposeOrphan State.formOrphan State.releaseOrphan at ht
  split at ht
  · split at ht
    · cases ht; rfl
    · cases ht
  · cases ht; rfl

theorem State.examine_writer {s t : State} (ht : s.examine = some t) : t.writer = s.writer := by
  unfold State.examine at ht
  split at ht
  · cases ht
  · unfold State.bothHeads State.compareHeads at ht
    dsimp only at ht
    (repeat' split at ht) <;>
      first
      | exact State.disposeOrphan_writer ht
      | (cases ht; unfold State.formPair State.updateSkew; dsimp only; split <;> simp)
      | cases ht
  · unfold State.loneHead at ht; split at ht
    · cases ht
    · exact State.disposeOrphan_writer ht
  · unfold State.loneHead at ht; split at ht
    · cases ht
    · exact State.disposeOrphan_writer ht



theorem State.disposeOrphan_reader {s t : State} {e : Eye} {h : Nat × FrameRecord} (ht : s.disposeOrphan e h = some t) :
    t.reader = s.reader := by
  unfold State.disposeOrphan State.formOrphan State.releaseOrphan at ht
  split at ht
  · split at ht
    · cases ht; rfl
    · cases ht
  · cases ht; rfl

theorem State.examine_reader {s t : State} (ht : s.examine = some t) : t.reader = s.reader := by
  unfold State.examine at ht
  split at ht
  · cases ht
  · unfold State.bothHeads State.compareHeads at ht
    dsimp only at ht
    (repeat' split at ht) <;>
      first
      | exact State.disposeOrphan_reader ht
      | (cases ht; unfold State.formPair State.updateSkew; dsimp only; split <;> simp)
      | cases ht
  · unfold State.loneHead at ht; split at ht
    · cases ht
    · exact State.disposeOrphan_reader ht
  · unfold State.loneHead at ht; split at ht
    · cases ht
    · exact State.disposeOrphan_reader ht



/-! Changes of sync state and silence ticks (R7, R11): the Sample Ports, the settings, the Pace Generator, the
delivery stay. -/
section
variable (s : State) (e : Eye)
@[simp] theorem State.cutFilling_pending : (s.cutFilling e).pending = s.pending := by unfold State.cutFilling; split <;> simp
@[simp] theorem State.changeSync_pending (g : Receiver → Receiver) : (s.changeSync e g).pending = s.pending := by
  unfold State.changeSync State.tellLeft; split <;> simp
@[simp] theorem State.linkOff_pending : (s.linkOff e).pending = s.pending := by unfold State.linkOff; split <;> simp
@[simp] theorem State.linkOn_pending : (s.linkOn e).pending = s.pending := by unfold State.linkOn; split <;> simp
@[simp] theorem State.takeSilenceTick_pending : (s.takeSilenceTick e).pending = s.pending := by
  unfold State.takeSilenceTick; dsimp only; (repeat' split) <;> simp
@[simp] theorem State.takeOwedSilence_pending : (s.takeOwedSilence e).pending = s.pending := by
  unfold State.takeOwedSilence; split <;> simp
@[simp] theorem State.linkTickLater_pending : (s.linkTickLater e).pending = s.pending := by
  unfold State.linkTickLater; dsimp only; split <;> simp
@[simp] theorem State.linkTick_pending : (s.linkTick e).pending = s.pending := by unfold State.linkTick; simp
@[simp] theorem State.cutFilling_straps : (s.cutFilling e).straps = s.straps := by unfold State.cutFilling; split <;> simp
@[simp] theorem State.changeSync_straps (g : Receiver → Receiver) : (s.changeSync e g).straps = s.straps := by
  unfold State.changeSync State.tellLeft; split <;> simp
@[simp] theorem State.linkOff_straps : (s.linkOff e).straps = s.straps := by unfold State.linkOff; split <;> simp
@[simp] theorem State.linkOn_straps : (s.linkOn e).straps = s.straps := by unfold State.linkOn; split <;> simp
@[simp] theorem State.takeSilenceTick_straps : (s.takeSilenceTick e).straps = s.straps := by
  unfold State.takeSilenceTick; dsimp only; (repeat' split) <;> simp
@[simp] theorem State.takeOwedSilence_straps : (s.takeOwedSilence e).straps = s.straps := by
  unfold State.takeOwedSilence; split <;> simp
@[simp] theorem State.linkTickLater_straps : (s.linkTickLater e).straps = s.straps := by
  unfold State.linkTickLater; dsimp only; split <;> simp
@[simp] theorem State.linkTick_straps : (s.linkTick e).straps = s.straps := by unfold State.linkTick; simp
@[simp] theorem State.cutFilling_settings : (s.cutFilling e).settings = s.settings := by unfold State.cutFilling; split <;> simp
@[simp] theorem State.changeSync_settings (g : Receiver → Receiver) : (s.changeSync e g).settings = s.settings := by
  unfold State.changeSync State.tellLeft; split <;> simp
@[simp] theorem State.linkOff_settings : (s.linkOff e).settings = s.settings := by unfold State.linkOff; split <;> simp
@[simp] theorem State.linkOn_settings : (s.linkOn e).settings = s.settings := by unfold State.linkOn; split <;> simp
@[simp] theorem State.takeSilenceTick_settings : (s.takeSilenceTick e).settings = s.settings := by
  unfold State.takeSilenceTick; dsimp only; (repeat' split) <;> simp
@[simp] theorem State.takeOwedSilence_settings : (s.takeOwedSilence e).settings = s.settings := by
  unfold State.takeOwedSilence; split <;> simp
@[simp] theorem State.linkTickLater_settings : (s.linkTickLater e).settings = s.settings := by
  unfold State.linkTickLater; dsimp only; split <;> simp
@[simp] theorem State.linkTick_settings : (s.linkTick e).settings = s.settings := by unfold State.linkTick; simp
@[simp] theorem State.cutFilling_pace : (s.cutFilling e).pace = s.pace := by unfold State.cutFilling; split <;> simp
@[simp] theorem State.changeSync_pace (g : Receiver → Receiver) : (s.changeSync e g).pace = s.pace := by
  unfold State.changeSync State.tellLeft; split <;> simp
@[simp] theorem State.linkOff_pace : (s.linkOff e).pace = s.pace := by unfold State.linkOff; split <;> simp
@[simp] theorem State.linkOn_pace : (s.linkOn e).pace = s.pace := by unfold State.linkOn; split <;> simp
@[simp] theorem State.takeSilenceTick_pace : (s.takeSilenceTick e).pace = s.pace := by
  unfold State.takeSilenceTick; dsimp only; (repeat' split) <;> simp
@[simp] theorem State.takeOwedSilence_pace : (s.takeOwedSilence e).pace = s.pace := by
  unfold State.takeOwedSilence; split <;> simp
@[simp] theorem State.linkTickLater_pace : (s.linkTickLater e).pace = s.pace := by
  unfold State.linkTickLater; dsimp only; split <;> simp
@[simp] theorem State.linkTick_pace : (s.linkTick e).pace = s.pace := by unfold State.linkTick; simp
@[simp] theorem State.cutFilling_leftLens : (s.cutFilling e).leftLens = s.leftLens := by unfold State.cutFilling; split <;> simp
@[simp] theorem State.changeSync_leftLens (g : Receiver → Receiver) : (s.changeSync e g).leftLens = s.leftLens := by
  unfold State.changeSync State.tellLeft; split <;> simp
@[simp] theorem State.linkOff_leftLens : (s.linkOff e).leftLens = s.leftLens := by unfold State.linkOff; split <;> simp
@[simp] theorem State.linkOn_leftLens : (s.linkOn e).leftLens = s.leftLens := by unfold State.linkOn; split <;> simp
@[simp] theorem State.takeSilenceTick_leftLens : (s.takeSilenceTick e).leftLens = s.leftLens := by
  unfold State.takeSilenceTick; dsimp only; (repeat' split) <;> simp
@[simp] theorem State.takeOwedSilence_leftLens : (s.takeOwedSilence e).leftLens = s.leftLens := by
  unfold State.takeOwedSilence; split <;> simp
@[simp] theorem State.linkTickLater_leftLens : (s.linkTickLater e).leftLens = s.leftLens := by
  unfold State.linkTickLater; dsimp only; split <;> simp
@[simp] theorem State.linkTick_leftLens : (s.linkTick e).leftLens = s.leftLens := by unfold State.linkTick; simp
@[simp] theorem State.cutFilling_rightLens : (s.cutFilling e).rightLens = s.rightLens := by unfold State.cutFilling; split <;> simp
@[simp] theorem State.changeSync_rightLens (g : Receiver → Receiver) : (s.changeSync e g).rightLens = s.rightLens := by
  unfold State.changeSync State.tellLeft; split <;> simp
@[simp] theorem State.linkOff_rightLens : (s.linkOff e).rightLens = s.rightLens := by unfold State.linkOff; split <;> simp
@[simp] theorem State.linkOn_rightLens : (s.linkOn e).rightLens = s.rightLens := by unfold State.linkOn; split <;> simp
@[simp] theorem State.takeSilenceTick_rightLens : (s.takeSilenceTick e).rightLens = s.rightLens := by
  unfold State.takeSilenceTick; dsimp only; (repeat' split) <;> simp
@[simp] theorem State.takeOwedSilence_rightLens : (s.takeOwedSilence e).rightLens = s.rightLens := by
  unfold State.takeOwedSilence; split <;> simp
@[simp] theorem State.linkTickLater_rightLens : (s.linkTickLater e).rightLens = s.rightLens := by
  unfold State.linkTickLater; dsimp only; split <;> simp
@[simp] theorem State.linkTick_rightLens : (s.linkTick e).rightLens = s.rightLens := by unfold State.linkTick; simp
@[simp] theorem State.cutFilling_rig : (s.cutFilling e).rig = s.rig := by unfold State.cutFilling; split <;> simp
@[simp] theorem State.changeSync_rig (g : Receiver → Receiver) : (s.changeSync e g).rig = s.rig := by
  unfold State.changeSync State.tellLeft; split <;> simp
@[simp] theorem State.linkOff_rig : (s.linkOff e).rig = s.rig := by unfold State.linkOff; split <;> simp
@[simp] theorem State.linkOn_rig : (s.linkOn e).rig = s.rig := by unfold State.linkOn; split <;> simp
@[simp] theorem State.takeSilenceTick_rig : (s.takeSilenceTick e).rig = s.rig := by
  unfold State.takeSilenceTick; dsimp only; (repeat' split) <;> simp
@[simp] theorem State.takeOwedSilence_rig : (s.takeOwedSilence e).rig = s.rig := by
  unfold State.takeOwedSilence; split <;> simp
@[simp] theorem State.linkTickLater_rig : (s.linkTickLater e).rig = s.rig := by
  unfold State.linkTickLater; dsimp only; split <;> simp
@[simp] theorem State.linkTick_rig : (s.linkTick e).rig = s.rig := by unfold State.linkTick; simp
@[simp] theorem State.cutFilling_delivery : (s.cutFilling e).delivery = s.delivery := by unfold State.cutFilling; split <;> simp
@[simp] theorem State.changeSync_delivery (g : Receiver → Receiver) : (s.changeSync e g).delivery = s.delivery := by
  unfold State.changeSync State.tellLeft; split <;> simp
@[simp] theorem State.linkOff_delivery : (s.linkOff e).delivery = s.delivery := by unfold State.linkOff; split <;> simp
@[simp] theorem State.linkOn_delivery : (s.linkOn e).delivery = s.delivery := by unfold State.linkOn; split <;> simp
@[simp] theorem State.takeSilenceTick_delivery : (s.takeSilenceTick e).delivery = s.delivery := by
  unfold State.takeSilenceTick; dsimp only; (repeat' split) <;> simp
@[simp] theorem State.takeOwedSilence_delivery : (s.takeOwedSilence e).delivery = s.delivery := by
  unfold State.takeOwedSilence; split <;> simp
@[simp] theorem State.linkTickLater_delivery : (s.linkTickLater e).delivery = s.delivery := by
  unfold State.linkTickLater; dsimp only; split <;> simp
@[simp] theorem State.linkTick_delivery : (s.linkTick e).delivery = s.delivery := by unfold State.linkTick; simp
end

/-! A pace tick (R47): whatever the order of its observers, the queue, the straps, the settings, the Pace
Generator and the Delivery Engine stay. -/
@[simp] theorem State.takeTick_pending (s : State) : s.takeTick.pending = s.pending := by
  unfold State.takeTick State.advanceWaits; simp

@[simp] theorem State.takeOwedTick_pending (s : State) : s.takeOwedTick.pending = s.pending := by
  unfold State.takeOwedTick; split <;> simp

@[simp] theorem State.matcherTick_pending (s : State) : s.matcherTick.pending = s.pending := by
  unfold State.matcherTick; split <;> simp

@[simp] theorem State.matcherTickLater_pending (s : State) : s.matcherTickLater.pending = s.pending := by
  unfold State.matcherTickLater State.oweMatcherTick; (repeat' split) <;> simp

theorem State.observe_pending (s : State) (o : TickObserver) : (s.observe o).pending = s.pending := by
  cases o
  · simp [State.observe]
  · simp [State.observe, State.ageSamples]
  · simp [State.observe]
  · simp only [State.observe, State.readerTick]; (repeat' split) <;> simp
  · simp only [State.observe, State.writerTick, State.statusTick, State.statusOrSkip, State.issueStatus,
      State.issueConsumed]
    (repeat' split) <;> simp

theorem State.observeLater_pending (s : State) (o : TickObserver) : (s.observeLater o).pending = s.pending := by
  cases o <;> first | exact State.observe_pending _ _ | simp [State.observeLater]

theorem State.tick_pending (s : State) (order : List TickObserver) : (s.tick order).pending = s.pending := by
  have now : ∀ (l : List TickObserver) (s : State), (l.foldl State.observe s).pending = s.pending := fun l => by
    induction l with
    | nil => intro s; rfl
    | cons o l ih => intro s; rw [List.foldl_cons, ih, State.observe_pending]
  have later : ∀ (l : List TickObserver) (s : State), (l.foldl State.observeLater s).pending = s.pending := fun l => by
    induction l with
    | nil => intro s; rfl
    | cons o l ih => intro s; rw [List.foldl_cons, ih, State.observeLater_pending]
  unfold State.tick; rw [later, now]

@[simp] theorem State.takeTick_straps (s : State) : s.takeTick.straps = s.straps := by
  unfold State.takeTick State.advanceWaits; simp

@[simp] theorem State.takeOwedTick_straps (s : State) : s.takeOwedTick.straps = s.straps := by
  unfold State.takeOwedTick; split <;> simp

@[simp] theorem State.matcherTick_straps (s : State) : s.matcherTick.straps = s.straps := by
  unfold State.matcherTick; split <;> simp

@[simp] theorem State.matcherTickLater_straps (s : State) : s.matcherTickLater.straps = s.straps := by
  unfold State.matcherTickLater State.oweMatcherTick; (repeat' split) <;> simp

theorem State.observe_straps (s : State) (o : TickObserver) : (s.observe o).straps = s.straps := by
  cases o
  · simp [State.observe]
  · simp [State.observe, State.ageSamples]
  · simp [State.observe]
  · simp only [State.observe, State.readerTick]; (repeat' split) <;> simp
  · simp only [State.observe, State.writerTick, State.statusTick, State.statusOrSkip, State.issueStatus,
      State.issueConsumed]
    (repeat' split) <;> simp

theorem State.observeLater_straps (s : State) (o : TickObserver) : (s.observeLater o).straps = s.straps := by
  cases o <;> first | exact State.observe_straps _ _ | simp [State.observeLater]

theorem State.tick_straps (s : State) (order : List TickObserver) : (s.tick order).straps = s.straps := by
  have now : ∀ (l : List TickObserver) (s : State), (l.foldl State.observe s).straps = s.straps := fun l => by
    induction l with
    | nil => intro s; rfl
    | cons o l ih => intro s; rw [List.foldl_cons, ih, State.observe_straps]
  have later : ∀ (l : List TickObserver) (s : State), (l.foldl State.observeLater s).straps = s.straps := fun l => by
    induction l with
    | nil => intro s; rfl
    | cons o l ih => intro s; rw [List.foldl_cons, ih, State.observeLater_straps]
  unfold State.tick; rw [later, now]

@[simp] theorem State.takeTick_settings (s : State) : s.takeTick.settings = s.settings := by
  unfold State.takeTick State.advanceWaits; simp

@[simp] theorem State.takeOwedTick_settings (s : State) : s.takeOwedTick.settings = s.settings := by
  unfold State.takeOwedTick; split <;> simp

@[simp] theorem State.matcherTick_settings (s : State) : s.matcherTick.settings = s.settings := by
  unfold State.matcherTick; split <;> simp

@[simp] theorem State.matcherTickLater_settings (s : State) : s.matcherTickLater.settings = s.settings := by
  unfold State.matcherTickLater State.oweMatcherTick; (repeat' split) <;> simp

theorem State.observe_settings (s : State) (o : TickObserver) : (s.observe o).settings = s.settings := by
  cases o
  · simp [State.observe]
  · simp [State.observe, State.ageSamples]
  · simp [State.observe]
  · simp only [State.observe, State.readerTick]; (repeat' split) <;> simp
  · simp only [State.observe, State.writerTick, State.statusTick, State.statusOrSkip, State.issueStatus,
      State.issueConsumed]
    (repeat' split) <;> simp

theorem State.observeLater_settings (s : State) (o : TickObserver) : (s.observeLater o).settings = s.settings := by
  cases o <;> first | exact State.observe_settings _ _ | simp [State.observeLater]

theorem State.tick_settings (s : State) (order : List TickObserver) : (s.tick order).settings = s.settings := by
  have now : ∀ (l : List TickObserver) (s : State), (l.foldl State.observe s).settings = s.settings := fun l => by
    induction l with
    | nil => intro s; rfl
    | cons o l ih => intro s; rw [List.foldl_cons, ih, State.observe_settings]
  have later : ∀ (l : List TickObserver) (s : State), (l.foldl State.observeLater s).settings = s.settings := fun l => by
    induction l with
    | nil => intro s; rfl
    | cons o l ih => intro s; rw [List.foldl_cons, ih, State.observeLater_settings]
  unfold State.tick; rw [later, now]

@[simp] theorem State.takeTick_pace (s : State) : s.takeTick.pace = s.pace := by
  unfold State.takeTick State.advanceWaits; simp

@[simp] theorem State.takeOwedTick_pace (s : State) : s.takeOwedTick.pace = s.pace := by
  unfold State.takeOwedTick; split <;> simp

@[simp] theorem State.matcherTick_pace (s : State) : s.matcherTick.pace = s.pace := by
  unfold State.matcherTick; split <;> simp

@[simp] theorem State.matcherTickLater_pace (s : State) : s.matcherTickLater.pace = s.pace := by
  unfold State.matcherTickLater State.oweMatcherTick; (repeat' split) <;> simp

theorem State.observe_pace (s : State) (o : TickObserver) : (s.observe o).pace = s.pace := by
  cases o
  · simp [State.observe]
  · simp [State.observe, State.ageSamples]
  · simp [State.observe]
  · simp only [State.observe, State.readerTick]; (repeat' split) <;> simp
  · simp only [State.observe, State.writerTick, State.statusTick, State.statusOrSkip, State.issueStatus,
      State.issueConsumed]
    (repeat' split) <;> simp

theorem State.observeLater_pace (s : State) (o : TickObserver) : (s.observeLater o).pace = s.pace := by
  cases o <;> first | exact State.observe_pace _ _ | simp [State.observeLater]

theorem State.tick_pace (s : State) (order : List TickObserver) : (s.tick order).pace = s.pace := by
  have now : ∀ (l : List TickObserver) (s : State), (l.foldl State.observe s).pace = s.pace := fun l => by
    induction l with
    | nil => intro s; rfl
    | cons o l ih => intro s; rw [List.foldl_cons, ih, State.observe_pace]
  have later : ∀ (l : List TickObserver) (s : State), (l.foldl State.observeLater s).pace = s.pace := fun l => by
    induction l with
    | nil => intro s; rfl
    | cons o l ih => intro s; rw [List.foldl_cons, ih, State.observeLater_pace]
  unfold State.tick; rw [later, now]

@[simp] theorem State.takeTick_delivery (s : State) : s.takeTick.delivery = s.delivery := by
  unfold State.takeTick State.advanceWaits; simp

@[simp] theorem State.takeOwedTick_delivery (s : State) : s.takeOwedTick.delivery = s.delivery := by
  unfold State.takeOwedTick; split <;> simp

@[simp] theorem State.matcherTick_delivery (s : State) : s.matcherTick.delivery = s.delivery := by
  unfold State.matcherTick; split <;> simp

@[simp] theorem State.matcherTickLater_delivery (s : State) : s.matcherTickLater.delivery = s.delivery := by
  unfold State.matcherTickLater State.oweMatcherTick; (repeat' split) <;> simp

theorem State.observe_delivery (s : State) (o : TickObserver) : (s.observe o).delivery = s.delivery := by
  cases o
  · simp [State.observe]
  · simp [State.observe, State.ageSamples]
  · simp [State.observe]
  · simp only [State.observe, State.readerTick]; (repeat' split) <;> simp
  · simp only [State.observe, State.writerTick, State.statusTick, State.statusOrSkip, State.issueStatus,
      State.issueConsumed]
    (repeat' split) <;> simp

theorem State.observeLater_delivery (s : State) (o : TickObserver) : (s.observeLater o).delivery = s.delivery := by
  cases o <;> first | exact State.observe_delivery _ _ | simp [State.observeLater]

theorem State.tick_delivery (s : State) (order : List TickObserver) : (s.tick order).delivery = s.delivery := by
  have now : ∀ (l : List TickObserver) (s : State), (l.foldl State.observe s).delivery = s.delivery := fun l => by
    induction l with
    | nil => intro s; rfl
    | cons o l ih => intro s; rw [List.foldl_cons, ih, State.observe_delivery]
  have later : ∀ (l : List TickObserver) (s : State), (l.foldl State.observeLater s).delivery = s.delivery := fun l => by
    induction l with
    | nil => intro s; rfl
    | cons o l ih => intro s; rw [List.foldl_cons, ih, State.observeLater_delivery]
  unfold State.tick; rw [later, now]

/-! ### Link commands in OFF, and target writes -/

/-- In OFF a link command discards its bytes (R3). -/
theorem State.unlessOff_off {s : State} {e : Eye} (h : (s.receiver e).sync = .off) (f : Receiver → Receiver)
    (effect : State) : s.unlessOff e f effect = s.onReceiver e f := if_pos h

/-- In every other state a link command has its effect. -/
theorem State.unlessOff_on {s : State} {e : Eye} (h : (s.receiver e).sync ≠ .off) (f : Receiver → Receiver)
    (effect : State) : s.unlessOff e f effect = effect := if_neg h

/-- Where a mark's eight bytes have been discarded, HUNT does not find it. -/
theorem Receiver.discardAt_finds (r r' : Receiver) (position : Nat) (mark : BitVec 64)
    (h : (r.discardAt position).scanFrom ≤ r'.scanFrom) : r'.finds position mark = false := by
  have past : ¬ r'.scanFrom ≤ position := by
    have := Nat.le_max_right r.scanFrom (position + 8)
    simp only [Receiver.discardAt] at h
    omega
  simp [Receiver.finds, past]

/-- The writes of a copy do not depend on how many are accepted. -/
@[simp] theorem Copy.writes_accepted (c : Copy) (n : Nat) (mem : Memory) (x : Entry) :
    { c with accepted := n }.writes mem x = c.writes mem x := rfl

/-- The target writes that one command accepts are the first of those that remain. -/
theorem Copy.nextRows_prefix (c : Copy) (mem : Memory) (x : Entry) (n : Nat) :
    c.nextRows mem x n <+: c.remaining mem x := (List.take_prefix n _).trans (List.dropLast_prefix _)

/-- An acceptance of target writes changes the carried list and the accepted count, and nothing else. -/
theorem State.acceptRows_eq (s : State) (c : Copy) (x : Entry) (n : Nat) :
    s.acceptRows c x n = { s with
      carried := s.carried ++ (c.nextRows s.store.mem x n).map BusItem.write
      delivery := { s.delivery with
        copy := some { c with accepted := c.accepted + (c.nextRows s.store.mem x n).length } } } := rfl

/-! ### The decode that follows a cue -/

theorem State.setReader_decodesOn (s : State) (x : ReaderState) : DecodesOn s (s.setReader x) :=
  ⟨rfl, rfl, rfl, rfl, rfl, rfl, rfl, rfl, rfl, rfl, rfl, rfl, rfl, ⟨_, _, rfl⟩, .inl ⟨rfl, rfl, rfl⟩⟩

theorem DecodesOn.refl (s : State) : DecodesOn s s :=
  ⟨rfl, rfl, rfl, rfl, rfl, rfl, rfl, rfl, rfl, rfl, rfl, rfl, rfl, ⟨_, _, rfl⟩, .inl ⟨rfl, rfl, rfl⟩⟩

/-- A fetch issued changes the fetch in flight alone. -/
theorem State.tryFetch_eq (s : State) : ∃ fetch, s.tryFetch = s.onReader fun r => { r with fetch := fetch } := by
  unfold State.tryFetch
  split
  · exact ⟨_, rfl⟩
  · exact ⟨s.reader.fetch, rfl⟩

/-- A cause set and a change of the reader commute. -/
theorem State.onReader_setCause (s : State) (f : CueReader → CueReader) (c : Cause) :
    (s.onReader f).setCause c = (s.setCause c).onReader f := by
  unfold State.setCause State.setIrq
  dsimp only
  rw [apply_ite fun u : State => u.onReader f]
  rfl

/-- The head judged: the writer depends on the writer, the bases and the stamp alone. -/
theorem State.judgeHead_writer_congr {s u : State} (w : u.writer = s.writer) (b : u.regs.bases = s.regs.bases)
    (p : u.pace.stamp = s.pace.stamp) : u.judgeHead.writer = s.judgeHead.writer := by
  have room : u.headRoom = s.headRoom := by simp only [State.headRoom, w, b]
  unfold State.judgeHead
  rw [w, room]
  split
  · simp [w]
  · cases s.headRoom <;> simp [State.issueRecord, State.issueConsumed, State.now, w, b, p]

/-- A record placed: the writer depends on the writer, the bases and the stamp alone. -/
theorem State.place_writer_congr {s u : State} (r : ResultRecord) (w : u.writer = s.writer)
    (b : u.regs.bases = s.regs.bases) (p : u.pace.stamp = s.pace.stamp) : (u.place r).writer = (s.place r).writer := by
  unfold State.place
  dsimp only
  rw [w]
  split
  · exact State.judgeHead_writer_congr (by simp [w]) b p
  · simp [w]

/-- A record placed with a writer that is not IDLE joins the tail, and nothing else changes (R129). -/
theorem State.place_of_not_idle {s : State} (r : ResultRecord) (h : s.writer.state ≠ .idle) :
    s.place r = { s with writer := { s.writer with held := s.writer.held ++ [r] } } := if_neg h

theorem State.faultReader_decodesOn (s : State) (c : FaultCode) : DecodesOn s (s.faultReader c) := by
  unfold State.faultReader
  dsimp only
  split
  · next h =>
    exact
      { pending := by simp, straps := by simp, settings := by simp, left := by simp, right := by simp
        store := by simp, pace := by simp, matcher := by simp, leftLens := by simp, rightLens := by simp
        rig := by simp, align := by simp, delivery := by simp
        reader := ⟨_, s.reader.fetch, by simp; rfl⟩
        outcome := .inr ⟨c, false, by simp [h], by simp, by rw [State.place_carried, State.onReader_setCause]; rfl, by simp,
          fun _ => State.place_writer_congr _ (by simp) (by simp) (by simp)⟩ }
  · next h =>
    exact
      { pending := by simp, straps := by simp, settings := by simp, left := by simp, right := by simp
        store := by simp, pace := by simp, matcher := by simp, leftLens := by simp, rightLens := by simp
        rig := by simp, align := by simp, delivery := by simp
        reader := ⟨_, s.reader.fetch, by simp; rfl⟩
        outcome := .inr ⟨c, true, by simp [h], by simp, by rw [State.onReader_setCause]; rfl, by simp, by simp⟩ }

theorem State.settle_decodesOn (s : State) : DecodesOn s s.settle := by
  unfold State.settle
  (repeat' split) <;>
    first
      | exact s.setReader_decodesOn _
      | exact s.faultReader_decodesOn _

/-- A fetch and the decode after it change what DecodesOn admits, and nothing else. -/
theorem State.resume_decodesOn (s : State) : DecodesOn s s.resume := by
  obtain ⟨f, hf⟩ := s.tryFetch_eq
  have b := s.tryFetch.settle_decodesOn
  unfold State.resume
  generalize s.tryFetch.settle = t at b ⊢
  rw [hf] at b
  obtain ⟨h1, h2, h3, h4, h5, h6, h7, h8, h9, h10, h11, h12, h13, ⟨x, y, h14⟩, h15⟩ := b
  refine ⟨h1, h2, h3, h4, h5, h6, h7, h8, h9, h10, h11, h12, h13, ⟨x, y, h14⟩, h15.imp id ?_⟩
  rintro ⟨code, mark, state, regs, carried, waits, placed⟩
  refine ⟨code, mark, state, regs, ?_, waits, fun m => (placed m).trans (State.place_writer_congr _ rfl rfl rfl)⟩
  rw [carried, State.onReader_setCause]
  rfl

/-! ### Cue commands -/

/-- A cue command whose cue stands at the cursor performs it. -/
theorem State.cueCommand_ready {s : State} {c : Cue} (h : s.standsReady c) : s.cueCommand c.name = s.perform c := by
  unfold State.cueCommand
  rw [h.1, h.2]
  exact if_pos rfl

/-- A cue command whose cue meets a hold condition puts the reader in HELD (R148). -/
theorem State.cueCommand_hold {s : State} {c : Cue} {r : HoldReason} (running : s.reader.state = .running)
    (h : s.verdict = .hold c r) : s.cueCommand c.name = s.holdCue r := by
  unfold State.cueCommand
  rw [running, h]
  exact if_pos rfl

/-- The command of a cue is its cue command. -/
theorem exec_cueInstr (n : CueName) (s : State) : exec (cueInstr n) s = .next (s.cueCommand n) := by cases n <;> rfl

/-! ### The part's own events -/

/-- The own event that is due is the first one due of the nine kinds (log 3). -/
theorem State.ownEvent_eq (s : State) : s.ownEvent = [s.failingWrite, s.owedTicks, s.dueReader, s.dueMeasurement,
    s.dueDelivery, s.dueDraining, s.duePace, s.dueMessage, s.dueTimeout].findSome? id := by
  have first : ∀ (x : Option Instr) (l : List (Option Instr)),
      (x.orElse fun _ => l.findSome? id) = (x :: l).findSome? id := fun x _ => by cases x <;> rfl
  have last : ∀ x : Option Instr, x = [x].findSome? id := fun x => by cases x <;> rfl
  unfold State.ownEvent
  rw [last s.dueTimeout]
  simp only [first]
  rw [← last]

end Sys2Proof.Machine
end

