-- ==== Sys2Proof/Laws/Passes.lean ====
section
/-! SUPPORT. Departures from FRAME_LOCK in the words of the statements, and disposal passes: an act takes a head from a
queue, so a pass of as many acts as there are heads is complete. -/

namespace Sys2Proof.Machine

/-- The heads still queued: what every act of a pass makes smaller. -/
def State.queuedHeads (s : State) : Nat := s.store.leftQueue.length + s.store.rightQueue.length

/-- The close check moves no slot and leaves the matcher's state and alarm. -/
theorem State.closeCheck_keeps (s : State) :
    s.closeCheck.store = s.store ∧ s.closeCheck.matcher.state = s.matcher.state ∧
    s.closeCheck.matcher.alarm = s.matcher.alarm := by
  unfold State.closeCheck State.completeClose
  split <;> simp

/-- The cut of the statements is the cut of the model. -/
theorem State.cutFilling_withCut (s : State) (e : Eye) : s.cutFilling e = s.withCut e := by
  unfold State.cutFilling State.withCut
  cases h : (s.receiver e).filling with
  | none => rfl
  | some f =>
    dsimp only
    cases e <;> simp only [State.onStore, State.onReceiver, FrameStore.cut, FrameStore.freeIf, FrameStore.setSlot,
      Receiver.count] <;> (split <;> simp_all)

/-- A cut leaves the matcher's state and alarm. -/
theorem State.withCut_matcher (s : State) (e : Eye) :
    (s.withCut e).matcher.state = s.matcher.state ∧ (s.withCut e).matcher.alarm = s.matcher.alarm := by
  unfold State.withCut
  split
  · exact ⟨rfl, rfl⟩
  · rw [(State.closeCheck_keeps _).2.1, (State.closeCheck_keeps _).2.2]
    cases e <;> exact ⟨rfl, rfl⟩

/-- A change of sync state out of FRAME_LOCK is a departure. -/
theorem State.changeSync_departs (s : State) (e : Eye) (g : Receiver → Receiver)
    (h : (s.receiver e).sync = .frameLock) : s.changeSync e g = s.departs e g := by
  unfold State.changeSync
  rw [if_pos h]
  unfold State.tellLeft State.departs State.afterDeparture
  congr 1
  rw [State.cutFilling_withCut, ← (s.withCut_matcher e).1, ← (s.withCut_matcher e).2]
  unfold State.onMatcher PairMatcher.leftLock
  split <;> cases e <;> simp_all [State.onReceiver]

/-- A queue that has a head is not empty. -/
theorem State.head_queued {s : State} {e : Eye} {x : Nat × FrameRecord} (h : s.head e = some x) :
    0 < (s.store.queue e).length := by
  unfold State.head at h
  cases hq : s.store.queue e with
  | nil => simp [hq] at h
  | cons => simp

/-- The disposal of an orphan takes its head from its queue, and leaves the matcher's state. -/
theorem State.disposeOrphan_shrinks {s u : State} {e : Eye} {x : Nat × FrameRecord} (hx : s.head e = some x)
    (hu : s.disposeOrphan e x = some u) :
    u.queuedHeads < s.queuedHeads ∧ u.matcher.state = s.matcher.state := by
  have hq := State.head_queued hx
  unfold State.disposeOrphan at hu
  unfold State.queuedHeads
  split at hu
  · split at hu
    · simp only [Option.some.injEq] at hu
      subst hu
      cases e <;> simp [State.formOrphan, FrameStore.take, FrameStore.onQueue, PairMatcher.setMark, FrameStore.setSlot,
        PairMatcher.join, FrameStore.queue] at hq ⊢ <;> omega
    · simp at hu
  · simp only [Option.some.injEq] at hu
    subst hu
    cases e <;> simp [State.releaseOrphan, FrameStore.releaseHead, FrameStore.onQueue, PairMatcher.setMark,
      FrameStore.setSlot, FrameStore.queue] at hq ⊢ <;> omega

/-- The skew tracker moves no slot and leaves the matcher in TRACKING. -/
theorem State.updateSkew_keeps (s : State) (d : Int) :
    (s.updateSkew d).store = s.store ∧ (s.updateSkew d).matcher.state = .tracking := by
  unfold State.updateSkew
  dsimp only
  split <;> simp [State.onMatcher]

/-- The formation of a pair takes both heads from their queues, and leaves the matcher in TRACKING. -/
theorem State.formPair_shrinks {s : State} {l r : Nat × FrameRecord} (hl : s.head .left = some l) :
    (s.formPair l r).queuedHeads < s.queuedHeads ∧ (s.formPair l r).matcher.state = .tracking := by
  have hq := State.head_queued hl
  unfold State.queuedHeads State.formPair
  dsimp only
  rw [(State.updateSkew_keeps _ _).1]
  refine ⟨?_, (State.updateSkew_keeps _ _).2⟩
  simp [State.onStore, State.onMatcher, State.onAlign, FrameStore.take, FrameStore.onQueue, FrameStore.setSlot,
    FrameStore.queue] at hq ⊢
  omega

/-- An act of a disposal pass takes a head from a queue, and does not stop the matcher. -/
theorem State.examine_shrinks {s u : State} (h : s.examine = some u) :
    u.queuedHeads < s.queuedHeads ∧ (s.matcher.state ≠ .stopped → u.matcher.state ≠ .stopped) := by
  have orphan : ∀ {e x}, s.head e = some x → s.disposeOrphan e x = some u →
      u.queuedHeads < s.queuedHeads ∧ (s.matcher.state ≠ .stopped → u.matcher.state ≠ .stopped) :=
    fun hx hu => ⟨(State.disposeOrphan_shrinks hx hu).1, fun hs => (State.disposeOrphan_shrinks hx hu).2 ▸ hs⟩
  unfold State.examine at h
  split at h
  · simp at h
  · rename_i l r e1 e2
    unfold State.bothHeads State.compareHeads at h
    dsimp only at h
    repeat' split at h
    all_goals first
      | exact orphan e1 h
      | exact orphan e2 h
      | (simp at h; done)
      | simp only [Option.some.injEq] at h
        subst h
        exact ⟨(State.formPair_shrinks e1).1, fun _ => by rw [(State.formPair_shrinks e1).2]; decide⟩
  · rename_i l e1 e2
    unfold State.loneHead at h
    split at h
    · simp at h
    · exact orphan e1 h
  · rename_i r e1 e2
    unfold State.loneHead at h
    split at h
    · simp at h
    · exact orphan e2 h

/-- A pass of at least as many acts as there are heads is complete: more acts change nothing, and no act is left. -/
theorem State.passSteps_stable (n : Nat) : ∀ (m : Nat) (s : State), s.queuedHeads ≤ n → n ≤ m →
    State.passSteps m s = State.passSteps n s ∧ (State.passSteps n s).examine = none := by
  induction n with
  | zero =>
    intro m s few _
    have none_left : s.examine = none := by
      cases h : s.examine with
      | none => rfl
      | some u => have := (State.examine_shrinks h).1; omega
    cases m with
    | zero => exact ⟨rfl, none_left⟩
    | succ m => exact ⟨by simp [State.passSteps, none_left], none_left⟩
  | succ n ih =>
    intro m s few le
    cases m with
    | zero => omega
    | succ m =>
      simp only [State.passSteps]
      cases h : s.examine with
      | none => exact ⟨rfl, h⟩
      | some u =>
        have less := (State.examine_shrinks h).1
        have kept : u.closeCheck.queuedHeads = u.queuedHeads := by
          unfold State.queuedHeads; rw [(State.closeCheck_keeps u).1]
        exact ih m u.closeCheck (by omega) (by omega)

end Sys2Proof.Machine
end

