-- ==== Sys2Proof/Laws/Draining.lean ====
section
/-! SUPPORT. From the moment the end of DRAINING is reached (R193): what each shared operation then leaves as it was,
so that no pace tick, pulse or link unit touches the writer or puts the end off. -/

namespace Sys2Proof.Machine

/-- The end of DRAINING is reached, with the writer as given, the matcher STOPPED and the reader OFF, as STOP leaves
them. -/
structure AtEnd (w : ResultWriter) (s : State) : Prop where
  drained : s.drained = true
  stopped : s.matcher.state = .stopped
  off : s.reader.state = .off
  writer : s.writer = w

namespace AtEnd
variable {w : ResultWriter} {s : State}

/-- No access is in flight, and the final status write is still to be made. -/
theorem quiet (h : AtEnd w s) : s.regs.run = .draining ∧ s.regs.drainedStarting = false ∧ s.writer.final = .notReached ∧
    s.regs.headerRead = none ∧ s.reader.fetch = none ∧ s.writer.consumedRead = none ∧ s.writer.recordWrite = none ∧
    s.writer.statusWrite = none ∧ s.delivery.copy = none := by
  have d := h.drained
  simp only [State.drained, State.quiet, Bool.and_eq_true, beq_iff_eq, Option.isNone_iff_eq_none,
    Bool.not_eq_true'] at d
  tauto

/-- What the end of DRAINING depends on. -/
theorem congr {t : State} (h : AtEnd w s) (writer : t.writer = s.writer) (reader : t.reader = s.reader)
    (copy : t.delivery.copy = s.delivery.copy) (matcher : t.matcher.state = s.matcher.state)
    (run : t.regs.run = s.regs.run) (starting : t.regs.drainedStarting = s.regs.drainedStarting)
    (header : t.regs.headerRead = s.regs.headerRead) : AtEnd w t where
  drained := by
    have d := h.drained
    unfold State.drained State.quiet at d ⊢
    rw [writer, reader, copy, run, starting, header]
    exact d
  stopped := matcher.trans h.stopped
  off := by rw [reader]; exact h.off
  writer := writer.trans h.writer

theorem onReceiver (h : AtEnd w s) (e f) : AtEnd w (s.onReceiver e f) := by
  cases e <;> exact h.congr rfl rfl rfl rfl rfl rfl rfl

theorem onStore (h : AtEnd w s) (f) : AtEnd w (s.onStore f) := h.congr rfl rfl rfl rfl rfl rfl rfl

theorem onAlign (h : AtEnd w s) (f) : AtEnd w (s.onAlign f) := h.congr rfl rfl rfl rfl rfl rfl rfl

theorem onPace (h : AtEnd w s) (f) : AtEnd w (s.onPace f) := h.congr rfl rfl rfl rfl rfl rfl rfl

theorem onPort (h : AtEnd w s) (p f) : AtEnd w (s.onPort p f) := by
  cases p <;> exact h.congr rfl rfl rfl rfl rfl rfl rfl

theorem setIrq (h : AtEnd w s) (c e) : AtEnd w (s.setIrq c e) := by apply h.congr <;> simp

theorem setCause (h : AtEnd w s) (c) : AtEnd w (s.setCause c) := by apply h.congr <;> simp

/-! ### The matcher and the receivers -/

theorem pass (h : AtEnd w s) : AtEnd w s.pass := by unfold State.pass; rw [if_pos h.stopped]; exact h

theorem closeCheck (h : AtEnd w s) : AtEnd w s.closeCheck := by
  unfold State.closeCheck
  rw [if_neg (fun c => c.1 h.stopped)]
  exact h

theorem dispose (h : AtEnd w s) : AtEnd w s.dispose := h.pass.closeCheck

theorem changeSync (h : AtEnd w s) (e g) : AtEnd w (s.changeSync e g) := by
  have cut : AtEnd w (s.cutFilling e) := by
    unfold State.cutFilling
    split
    · exact h
    · exact ((h.onStore _).onReceiver _ _).closeCheck
  unfold State.changeSync State.tellLeft
  split
  · have told := (cut.onReceiver e g).setCause .link
    refine AtEnd.pass (told.congr rfl rfl rfl ?_ rfl rfl rfl)
    unfold PairMatcher.leftLock
    exact congrArg _ (if_neg (by rw [told.stopped]; decide))
  · exact h.onReceiver _ _

theorem enterFrameLock (h : AtEnd w s) (e) : AtEnd w (s.enterFrameLock e) := by
  unfold State.enterFrameLock
  have p := ((h.onReceiver e fun r => { r with sync := .frameLock, expectation := none, silence := 0 }).setCause
    .link).pass
  refine p.congr rfl ?_ rfl rfl rfl rfl rfl
  simp only [State.onReader_reader, CueReader.reportLock, p.off]

theorem completeIfFilling (h : AtEnd w s) (e t) : AtEnd w (s.completeIfFilling e t) := by
  unfold State.completeIfFilling State.completeFrame
  split
  · exact h
  · split
    · exact ((h.onStore _).onReceiver _ _).dispose
    · exact h.onReceiver _ _

theorem arrival (h : AtEnd w s) (e head) : AtEnd w (s.arrival e head) := by
  unfold State.arrival State.claim State.slip State.beginFill
  dsimp only
  (repeat' split)
  · exact ((h.onReceiver _ _).onReceiver _ _).setCause _
  · exact (((h.onReceiver _ _).onStore _).onReceiver _ _).closeCheck
  · exact (h.onReceiver _ _).onReceiver _ _

theorem takeHead (h : AtEnd w s) (e head) : AtEnd w (s.takeHead e head) := by
  unfold State.takeHead State.headInRowLock State.headInFrameLock
  dsimp only
  (repeat' split)
  · exact ((h.onReceiver _ _).enterFrameLock _).arrival _ _
  · exact (h.onReceiver _ _).onReceiver _ _
  · exact (((h.onReceiver _ _).onReceiver _ _).completeIfFilling _ _).arrival _ _
  · exact ((h.onReceiver _ _).onReceiver _ _).changeSync _ _
  all_goals exact h.onReceiver _ _

theorem lockedRow (h : AtEnd w s) (e length mark body) : AtEnd w (s.lockedRow e length mark body) := by
  unfold State.lockedRow State.fillRow
  dsimp only
  (repeat' split)
  · exact h.changeSync _ _
  · exact h.onReceiver _ _
  · exact (((h.onReceiver _ _).onReceiver _ _).onStore _).onReceiver _ _
  · exact (((h.onReceiver _ _).onReceiver _ _).onStore _).onReceiver _ _
  · exact (h.onReceiver _ _).onReceiver _ _

theorem takeSilenceTick (h : AtEnd w s) (e) : AtEnd w (s.takeSilenceTick e) := by
  unfold State.takeSilenceTick
  dsimp only
  (repeat' split) <;> first | exact h.onReceiver _ _ | exact h.changeSync _ _ | exact h

theorem takeOwedSilence (h : AtEnd w s) (e) : AtEnd w (s.takeOwedSilence e) := by
  unfold State.takeOwedSilence
  split
  · exact (h.onReceiver _ _).takeSilenceTick _
  · exact h

/-! ### Pace ticks and pulses (R47, R193) -/

/-- The writer makes no status write and no consumed read at a tick. -/
theorem writerTick (h : AtEnd w s) : s.writerTick.statusTick = s := by
  obtain ⟨run, -, -, -, -, -, -, none, -⟩ := h.quiet
  have reads : s.writerTick = s := by unfold State.writerTick; exact if_neg (by simp [run])
  have writes : s.statusOrSkip = s := by simp [State.statusOrSkip, none, State.endReached, h.drained]
  rw [reads, State.statusTick, writes, ite_self]

theorem observe (h : AtEnd w s) (o : TickObserver) : AtEnd w (s.observe o) := by
  cases o with
  | linkReceiver e => exact (h.takeOwedSilence e).takeSilenceTick e
  | samplePort p => unfold State.observe State.ageSamples; exact h.onPort p _
  | pairMatcher => unfold State.observe State.matcherTick; rw [if_pos h.stopped]; exact h
  | cueReader =>
    simp only [State.observe, State.readerTick, h.off]
    exact h.congr rfl (by simp only [State.onReader_reader, CueReader.reportTick, h.off]) rfl rfl rfl rfl rfl
  | resultWriter => rw [State.observe, h.writerTick]; exact h

theorem observeLater (h : AtEnd w s) (o : TickObserver) : AtEnd w (s.observeLater o) := by
  cases o with
  | linkReceiver e =>
    unfold State.observeLater State.linkTickLater
    dsimp only
    split
    · exact (h.takeOwedSilence e).onReceiver _ _
    · exact (h.takeOwedSilence e).takeSilenceTick e
  | pairMatcher => unfold State.observeLater State.matcherTickLater; rw [if_pos h.stopped]; exact h
  | samplePort p => exact h.observe (.samplePort p)
  | cueReader => exact h.observe .cueReader
  | resultWriter => exact h.observe .resultWriter

theorem tick (h : AtEnd w s) (order : List TickObserver) : AtEnd w (s.tick order) := by
  have fold : ∀ (f : State → TickObserver → State), (∀ s, AtEnd w s → ∀ o, AtEnd w (f s o)) →
      ∀ (l : List TickObserver) (s : State), AtEnd w s → AtEnd w (l.foldl f s) := fun f keeps l => by
    induction l with
    | nil => exact fun _ h => h
    | cons o l ih => exact fun s h => ih _ (keeps s h o)
  exact fold _ (fun _ h => h.observeLater) _ _ (fold _ (fun _ h => h.observe) _ _ h)

theorem enterHoldover (h : AtEnd w s) (t order) : AtEnd w (s.enterHoldover t order) := by
  unfold State.enterHoldover
  dsimp only
  (repeat' split)
  · exact ((((h.onPace _).onPace _).setCause _).tick order).setCause _
  · exact (((h.onPace _).onPace _).tick order).setCause _
  · exact ((h.onPace _).onPace _).setCause _

theorem takePulse (h : AtEnd w s) (order) : AtEnd w (s.takePulse order) := by
  have seeks : ∀ {u : State}, AtEnd w u → ∀ i, AtEnd w (u.seekLock i order) := fun g i => by
    unfold State.seekLock State.completeLock
    dsimp only
    split
    · exact (((g.onPace _).onPace _).tick order).setCause _
    · exact g.onPace _
  unfold State.takePulse
  dsimp only
  split
  · exact h.onPace _
  · next t _ =>
    have counted := (h.onPace fun g => { g with previousPulse := some s.now }).onPace fun g =>
      g.countPulse (elapsed s.now t)
    unfold State.judgedPulse
    (repeat' split)
    · exact (counted.onPace _).tick order
    · exact counted.enterHoldover _ _
    · exact seeks counted _
    · exact seeks counted _

theorem timerTick (h : AtEnd w s) (t order) : AtEnd w (s.timerTick t order) := by
  unfold State.timerTick
  dsimp only
  split
  · exact ((h.onPace _).setCause _).tick order
  · exact (h.onPace _).tick order

end AtEnd

end Sys2Proof.Machine
end

