-- ==== Sys2Proof/Laws/Memory.lean ====
section
/-! SUPPORT. Slot memory: every operation keeps the canonical form, and a read sees the last write. -/

namespace Sys2Proof.Machine

theorem Memory.above_write {k a : Nat} {b : Byte} (h : k < a) :
    ∀ m : Memory, Memory.above k m = true → Memory.above k (Memory.write m a b) = true := by
  intro m
  induction m with
  | nil =>
    intro _
    by_cases hb : b = Memory.unlisted <;> simp [Memory.write, Memory.above, hb, h]
  | cons c m ih =>
    intro hm
    simp only [Memory.above, List.all_cons, Bool.and_eq_true, decide_eq_true_eq] at hm ih ⊢
    unfold Memory.write
    split
    · simp [hm.1, ih hm.2]
    · split
      · split
        · exact hm.2
        · simp [h, hm.2]
      · split
        · simp [hm.1, hm.2]
        · simp [h, hm.1, hm.2]

theorem Memory.above_trans {j k : Nat} (h : j ≤ k) (m : Memory) :
    Memory.above k m = true → Memory.above j m = true := by
  simp only [Memory.above, List.all_eq_true, decide_eq_true_eq]
  intro hm c hc
  exact Nat.lt_of_le_of_lt h (hm c hc)

/-- A write keeps the canonical form. -/
theorem Memory.wf_write (a : Nat) (b : Byte) :
    ∀ m : Memory, Memory.wf m = true → Memory.wf (Memory.write m a b) = true := by
  intro m
  induction m with
  | nil =>
    intro _
    by_cases hb : b = Memory.unlisted <;> simp [Memory.write, Memory.wf, Memory.above, hb]
  | cons c m ih =>
    intro hm
    have hm' := hm
    simp only [Memory.wf, Bool.and_eq_true, bne_iff_ne, ne_eq] at hm
    unfold Memory.write
    split
    · rename_i hlt
      simp only [Memory.wf, Bool.and_eq_true, bne_iff_ne, ne_eq]
      exact ⟨⟨hm.1.1, Memory.above_write hlt m hm.1.2⟩, ih hm.2⟩
    · split
      · rename_i heq
        split
        · exact hm.2
        · rename_i hb
          simp only [Memory.wf, Bool.and_eq_true, bne_iff_ne, ne_eq]
          exact ⟨⟨hb, heq ▸ hm.1.2⟩, hm.2⟩
      · split
        · exact hm'
        · rename_i h1 h2 hb
          have hac : a < c.1 := by omega
          simp only [Memory.wf, Bool.and_eq_true, bne_iff_ne, ne_eq]
          refine ⟨⟨hb, ?_⟩, hm⟩
          simp only [Memory.above, List.all_cons, Bool.and_eq_true, decide_eq_true_eq]
          exact ⟨hac, Memory.above_trans (Nat.le_of_lt hac) m hm.1.2⟩

/-- Writing bytes keeps the canonical form. -/
theorem Memory.wf_writeBytes :
    ∀ (bs : List Byte) (m : Memory) (a : Nat), Memory.wf m = true → Memory.wf (Memory.writeBytes m a bs) = true := by
  intro bs
  induction bs with
  | nil => intro m a h; exact h
  | cons b bs ih => intro m a h; exact ih _ _ (Memory.wf_write a b m h)

theorem Memory.read_above {k : Nat} : ∀ m : Memory, Memory.above k m = true → ∀ a ≤ k, Memory.read m a = Memory.unlisted := by
  intro m
  induction m with
  | nil => intros; rfl
  | cons c m ih =>
    intro hm a ha
    simp only [Memory.above, List.all_cons, Bool.and_eq_true, decide_eq_true_eq] at hm ih
    have : ¬ c.1 = a := by omega
    simp only [Memory.read, this, if_false]
    exact ih hm.2 a ha

/-- A read after a write, in the canonical form. -/
theorem Memory.read_write (a : Nat) (b : Byte) :
    ∀ m : Memory, Memory.wf m = true → ∀ x, Memory.read (Memory.write m a b) x = if x = a then b else Memory.read m x := by
  intro m
  induction m with
  | nil =>
    intro _ x
    have hs : a = x ↔ x = a := eq_comm
    by_cases hb : b = Memory.unlisted <;> by_cases hx : x = a <;> simp [Memory.write, Memory.read, hb, hx, hs]
  | cons c m ih =>
    intro hm x
    simp only [Memory.wf, Bool.and_eq_true, bne_iff_ne, ne_eq] at hm
    unfold Memory.write
    split
    · rename_i hlt
      by_cases hc : c.1 = x
      · have : ¬ x = a := by omega
        simp [Memory.read, hc, this]
      · simp [Memory.read, hc, ih hm.2]
    · split
      · rename_i heq
        split
        · rename_i hb
          by_cases hx : x = a
          · simp only [hx, if_true, hb]
            exact Memory.read_above m hm.1.2 a (by omega)
          · have : ¬ c.1 = x := by omega
            simp [Memory.read, hx, this]
        · by_cases hx : x = a
          · simp [Memory.read, hx]
          · have h1 : ¬ c.1 = x := by omega
            have h2 : ¬ a = x := by omega
            simp [Memory.read, hx, h1, h2]
      · rename_i h1 h2
        have hac : a < c.1 := by omega
        split
        · rename_i hb
          by_cases hx : x = a
          · have hne : ¬ c.1 = a := by omega
            simp only [hx, if_true, hb, Memory.read, hne, if_false]
            exact Memory.read_above m hm.1.2 a (by omega)
          · simp [hx]
        · by_cases hx : x = a
          · simp [Memory.read, hx]
          · have : ¬ a = x := by omega
            simp [Memory.read, hx, this]

/-- A write outside an address leaves what it reads. -/
theorem Memory.read_writeBytes_outside :
    ∀ (bs : List Byte) (m : Memory) (a x : Nat), Memory.wf m = true → (x < a ∨ a + bs.length ≤ x) →
      Memory.read (Memory.writeBytes m a bs) x = Memory.read m x := by
  intro bs
  induction bs with
  | nil => intros; rfl
  | cons b bs ih =>
    intro m a x hm hx
    simp only [List.length_cons] at hx
    rw [Memory.writeBytes, ih _ _ _ (Memory.wf_write a b m hm) (by omega), Memory.read_write a b m hm]
    have : ¬ x = a := by omega
    simp [this]

/-- Reset memory is canonical. -/
theorem Memory.wf_reset : Memory.wf State.reset.store.mem = true := rfl

end Sys2Proof.Machine
end

