-- ==== Sys2Proof/Tests/Slice0.lean ====
section
/-! SUPPORT. The model's own tests: commands the well-formedness check refuses, worked values of the manual, and for
every statement that has hypotheses a state and operands that meet them, clause by clause. -/

namespace Sys2Proof.Tests

open Sys2Proof Sys2Proof.Machine

set_option Elab.async false

/-! ### Small states -/

/-- The machine after reset in another run state, with the Bus Port taking writes. -/
def inRun (r : RunState) : State :=
  { State.reset with regs := { State.reset.regs with run := r, busMaster := true, msiEnable := true } }

/-- A format of 320 row bytes: link rows of 330 bytes. -/
def small : FormatSetting := { depth := .ten, packing := .sequential, width := 256, height := 128 }

/-- RUNNING over a small ring and window, at stamp 1,000,000. -/
def running : State :=
  { inRun .running with
    regs := { (inRun .running).regs with bases := ⟨0x100000#64, 4096, 0x200000#64, 16, 0x300000#64, 0x8020#64⟩ }
    settings := { State.reset.settings with format := small }
    pace := { State.reset.pace with stamp := 1000000#48 }
    matcher := { PairMatcher.reset with state := .acquire }
    writer := { ResultWriter.reset with state := .idle }
    reader := { CueReader.reset with state := .running } }

/-- RUNNING with a cue at the cursor, and one PAD after it. -/
def withCue (c : Cue) : State :=
  { running with reader := { running.reader with buffer := c.bytes ++ [1#8], fetchPointer := 8 } }

/-- RUNNING with the LEFT receiver as given. -/
def withLeft (r : Receiver) : State := { running with left := r }

/-- A receiver in a sync state with row length 330, and a history of four good marks. -/
def placed (x : SyncState) : Receiver :=
  { Receiver.reset with sync := x, rowLength := some 330, history := [true, true, true, true], rowNumber := 6 }

/-- A frame with a capture stamp. -/
def frameOf (e : Eye) (c : Nat) : FrameRecord :=
  { eye := e, frameCount := 7#16, captureStamp := BitVec.ofNat 48 c, countGap := none, damagedRows := 0,
    flaws := ⟨false, false, false⟩, profiles := [] }

/-- The LEFT receiver filling slot 0. -/
def filling : Filling :=
  { slot := 0, rowsReceived := 0, frameCheck := 0#32, profileRows := [], orientation := .normal, format := small }

/-- A receiver in FRAME_LOCK that fills slot 0. -/
def fillingLeft : Receiver := { placed .frameLock with filling := some filling }

/-- RUNNING with the LEFT receiver filling slot 0 at a row index. -/
def atRow (i : Nat) : State :=
  { withLeft { fillingLeft with filling := some { filling with rowsReceived := i } } with
    store := { running.store with slots := running.store.slots.set 0 (.filling (frameOf .left 900000)) } }

/-- RUNNING with one frame in each queue, LEFT in slot 0 and RIGHT in slot 1, at two capture stamps. -/
def heads (l r : Nat) : State :=
  { running with
    store := { running.store with
      slots := (running.store.slots.set 0 (.queued (frameOf .left l))).set 1 (.queued (frameOf .right r))
      leftQueue := [0], rightQueue := [1] } }

/-- RUNNING with one LEFT frame queued, and the RIGHT receiver in a sync state. -/
def lone (x : SyncState) : State :=
  { running with
    right := placed x
    store := { running.store with slots := running.store.slots.set 0 (.queued (frameOf .left 900000)), leftQueue := [0] } }

/-- A Row Mark with a good check. -/
def markOf (row : Nat) : BitVec 64 := BitVec.ofNat 64 (0x9A6C35E1 + row * 2 ^ 32 + (65535 - row) * 2 ^ 48)

/-- A Frame Head of the small format with a good check: frame count 9, latency 100. -/
def headUnit : BitVec 192 :=
  let b := leBytes 4 0xC3A5F01E ++ leBytes 2 9 ++ leBytes 2 100 ++ leBytes 2 256 ++ leBytes 2 128 ++ leBytes 1 10 ++
    leBytes 9 0
  BitVec.ofNat 192 (natOf (b ++ leBytes 2 (wordSum b).toNat))

/-- A Frame Tail: 128 rows sent, frame check 0. -/
def tailUnit : BitVec 128 := BitVec.ofNat 128 (0xC3A5F02D + 128 * 2 ^ 32)

/-- A good exchange header. -/
def header : BitVec 512 :=
  BitVec.ofNat 512 (natOf (leBytes 8 0x100000 ++ leBytes 4 1048576 ++ leBytes 4 4096 ++ leBytes 8 0x200000 ++
    leBytes 8 0x300040 ++ leBytes 4 5))

/-- A PAIR entry over slots 0 and 1. -/
def entry (d : Disposition) (x : EntryState) : Entry :=
  { unit := 1#32, kind := .pair 0, left := some ⟨0, 5#48, 7#16, none⟩, right := some ⟨1, 5#48, 7#16, none⟩,
    takeNumber := none, leftLens := none, rightLens := none, rig := none, measurement := none, applied := none,
    droppedSince := none, disposition := d, state := x }

/-- RUNNING with one entry in the pair table. -/
def withEntry (x : Entry) : State := { running with matcher := { running.matcher with table := [x] } }

/-- A measurement in progress for unit 1. -/
def measuring : InProgress := { unit := 1#32, rows := [], range := 0, left := [], right := [], begun := 0#48 }

/-- A pace state at stamp `now` with the pulse before it at 1,000,000. -/
def pulsed (g : PaceGenerator) (now : Nat) : State :=
  { State.reset with pace := { g with stamp := BitVec.ofNat 48 now, previousPulse := some 1000000#48 } }

/-- REFERENCED at a period of 40,000 µs. -/
def referenced : PaceGenerator :=
  { PaceGenerator.reset with
    state := .referenced, measured := some 40000, timer := none, deadline := some ⟨1000000#48, 60000⟩ }

/-! ### Commands that are not well formed -/

theorem test_wellFormed_refuses :
    Instr.wellFormed (.huntMarkFound .left 0 0#64) = false ∧
    Instr.wellFormed (.rowPosition .left 0xC3A5F01E#64 []) = false ∧
    Instr.wellFormed (.rowPosition .left 0xC3A5F02D#64 []) = false ∧
    Instr.wellFormed (.rowPosition .left 0xC3A5F03C#64 []) = false ∧
    Instr.wellFormed (.frameHead .left 0#192) = false ∧ Instr.wellFormed (.frameTail .left 0#128) = false ∧
    Instr.wellFormed (.fillUnit .left 0#64) = false ∧
    Instr.wellFormed (.referencePulse [.cueReader, .cueReader]) = false ∧
    Instr.wellFormed (.lossDeadlineExpiry [.cueReader, .cueReader]) = false ∧
    Instr.wellFormed (.tickTimerExpiry [.cueReader, .cueReader]) = false ∧
    Instr.wellFormed (.holdoverLimitReached [.cueReader, .cueReader]) = false := by decide

theorem test_wellFormed_refuses_long_row :
    Instr.wellFormed (.rowPosition .left 0#64 (List.replicate 8195 0#8)) = false ∧
    Instr.wellFormed (.rowPosition .left 0#64 (List.replicate 8194 0#8)) = true := by decide +kernel

theorem test_no_word_spells_a_command : decodeTableWord 32 1 = none ∧ State.reset.withFetchWord 32 1 = State.reset := by
  decide

/-! ### Worked values of the manual -/

theorem test_ident :
    Straps.ident ⟨.mirrorLeft, true, true⟩ = 0xA520DC4E#32 ∧ Straps.ident ⟨.parallel, false, true⟩ = 0xE5205C4E#32 := by
  decide

theorem test_pixels_unpack_and_pack :
    unpack .twelve [0xBC#8, 0xFA#8, 0xDE#8] = [0xABC, 0xDEF] ∧ pack .twelve [0xABC, 0xDEF] = [0xBC#8, 0xFA#8, 0xDE#8] ∧
    pack .ten (unpack .ten [1#8, 2#8, 3#8, 4#8, 5#8]) = [1#8, 2#8, 3#8, 4#8, 5#8] := by decide

/-- 06, Example: one measurement near a tie. -/
theorem test_near_tie :
    let scores : List (Int × Nat) := [(-2, 9376), (-1, 5150), (0, 1306), (1, 1290), (2, 4985)]
    judgeScores scores 64 = .invalid ∧ judgeScores scores 0 = .valid ⟨1, 16⟩ ∧
    scoreOf [1310, 1190, 1420] = some 1306 ∧ scoreOf [1280, 1350, 1240] = some 1290 ∧ scoreOf [4960, 5010] = some 4985 ∧
    scoreOf [4960] = none := by decide

/-- 06, Example: settling the offset. -/
theorem test_offset_settles :
    let t : TrackSetting := State.reset.settings.track
    let a := [(1 : Int), 1, 2, 2, 2, 2, 1].foldl (fun a b => a.track t b) AlignmentUnit.reset
    a.offset = 2 ∧ a.candidate = some 1 ∧ a.agreement = 1 ∧ a.settles = 1#32 := by decide

/-- 03, Example: the loss deadline at 1,260,000 with P = 40,000 and T = 1,200,000. -/
theorem test_loss_deadline :
    let s : State := { State.reset with
      settings := { State.reset.settings with pace := ⟨41667, 3⟩ }
      pace := { referenced with
        stamp := 1260000#48, previousPulse := some 1200000#48, deadline := some ⟨1200000#48, 60000⟩ } }
    (∃ t, exec (.lossDeadlineExpiry []) s = .next t ∧ t.pace.state = .holdover ∧ t.pace.holdoverCount = 1 ∧
      t.pace.timer = some ⟨1200000#48, 80000⟩) := ⟨_, rfl, by decide +kernel⟩

theorem test_layouts_have_their_sizes :
    (ResultRecord.bytes (.note 5#32) 1#32).length = 128 ∧ (running.statusBytes 1#32 true).length = 256 ∧
    (ResultRecord.bytes (.note 5#32) 1#32).getD 4 0#8 = 4#8 ∧
    (ResultRecord.bytes (.note 5#32) 1#32).getD 0x60 0#8 = 5#8 := by decide +kernel

/-- 09, Example: checks on a PROBES cue. -/
theorem test_probes_checks :
    (let bytes : List Byte := [0x22#8, 9#8]
     State.verdict { running with reader := { running.reader with buffer := bytes } } = .fault .badValue) ∧
    probesFields ([0x22#8, 3#8, 2#8, 0#8] ++ leBytes 2 400 ++ leBytes 2 1080 ++ leBytes 2 400) 2160 = .bad .badValue ∧
    probesFields ([0x22#8, 3#8, 2#8, 0#8] ++ leBytes 2 400 ++ leBytes 2 2200 ++ leBytes 2 1760) 2160 = .bad .badValue ∧
    probesFields [0x22#8, 0#8, 0#8, 0#8] 2160 = .good (.probes ⟨[], 0⟩) := by decide +kernel

/-- 08, Example: filling the buffer after an unaligned jump: the first word gives five bytes, and the reader stalls. -/
theorem test_unaligned_jump :
    (∃ t, exec (.cueFetchReturn 0x0000000040010101#64) { running with
        reader := { running.reader with
          cursor := 331, fetchPointer := 328, skip := 3, fetch := some ⟨0, 328, 0x100148#64, 0#48, false⟩ } } = .next t ∧
      t.reader.buffer.length = 5 ∧ t.reader.fetchPointer = 336 ∧ t.reader.skip = 0 ∧ t.reader.state = .stalled ∧
      t.reader.fetch = some ⟨0, 336, 0x100150#64, 1000000#48, false⟩) := ⟨_, rfl, by decide +kernel⟩

/-! ### Witnesses for the hypotheses of the statements -/

theorem witness_StepTakesFront : { running with pending := [Instr.start] }.pending = .start :: [] := by decide

theorem witness_EmptyQueueStep :
    State.reset.pending = [] ∧ State.reset.ownEvent = none ∧
    State.ownEvent { running with left := { placed .rowLock with tickOwed := true } } = some (.silenceExpiry .left) := by
  decide +kernel

theorem witness_StartBegins :
    (let s : State := { inRun .halted with regs := { (inRun .halted).regs with exchangeLo := 64#32 } }
     s.regs.run = .halted ∧ s.regs.exchangeHi ++ s.regs.exchangeLo ≠ 0#64 ∧
      (s.regs.exchangeHi ++ s.regs.exchangeLo).toNat % 64 = 0) ∧
    (let s : State := { State.reset with regs := { State.reset.regs with exchangeLo := 63#32 } }
     s.regs.run = .idle ∧ (s.regs.exchangeHi ++ s.regs.exchangeLo).toNat % 64 ≠ 0) ∧
    State.reset.regs.exchangeHi ++ State.reset.regs.exchangeLo = 0#64 ∧ running.regs.run = .running := by decide

theorem witness_StopDrains :
    (let s := atRow 5
     s.regs.run = .running ∧ s.left.sync = .frameLock ∧ s.left.filling.map (·.slot) = some 0 ∧
      (s.store.slot 0).isFilling = true ∧ (s.store.slot 1).isFilling = false ∧ s.right.sync = .off) ∧
    (∀ x ∈ [SyncState.hunt, .verify, .rowLock], (withLeft (placed x)).left.sync = x) ∧
    (inRun .starting).regs.run = .starting ∧ State.reset.regs.run = .idle ∧ (inRun .draining).regs.run = .draining ∧
    (inRun .halted).regs.run = .halted := by decide

/-- STOP with a frame being filled: its slot is FREE and the cut is counted. -/
theorem test_stop_cuts :
    (∃ t, exec .stop (atRow 5) = .next t ∧ t.store.slot 0 = .free ∧ t.left.counters.cuts = 1#32 ∧
      t.left.filling = none ∧ t.matcher.state = .stopped) := ⟨_, rfl, by decide +kernel⟩

theorem witness_InterruptMessages : (State.reset.setIrq 1#9 1#9).regs.request = true := by decide

theorem witness_RegisterWrites :
    (∀ offset ∈ [0x00#5, 0x04#5, 0x14#5, 0x09#5, 0x1F#5], offset ∉ [0x08#5, 0x0C#5, 0x10#5, 0x18#5, 0x1C#5]) ∧
    AccessWidth.half ≠ .word := by decide

/-- 10, The registers: STATE in HALTED after a bus error with a refused command. -/
theorem test_state_word :
    RegisterWindow.stateWord { RegisterWindow.reset with run := .halted, halt := .busError, outcome := .refused } =
      0x224#32 := by decide

/-- The header read in flight, in a run state. -/
def headerIn (r : RunState) : State :=
  { inRun r with regs := { (inRun r).regs with headerRead := some ⟨0x8000#64, 0#48⟩, exchangeLo := 0x8000#32 } }

theorem witness_HeaderStartsRun :
    (headerIn .starting).regs.headerRead = some ⟨0x8000#64, 0#48⟩ ∧ (headerIn .starting).regs.run = .starting ∧
    headerValid header = true := by decide +kernel

/-- START from HALTED with a link in FRAME_LOCK sets LINK (log 26). -/
theorem test_start_sets_link :
    (∃ t, exec (.headerReadReturn header) { headerIn .starting with left := placed .frameLock } = .next t ∧
      t.regs.cause = 0x008#9 ∧ t.left.sync = .hunt) := ⟨_, rfl, by decide +kernel⟩

/-- A header by its six fields. -/
def headerOf (cueBase cueSize entries ringBase statusBase rest : Nat) : BitVec 512 :=
  BitVec.ofNat 512 (natOf (leBytes 8 cueBase ++ leBytes 4 cueSize ++ leBytes 4 entries ++ leBytes 8 ringBase ++
    leBytes 8 statusBase ++ leBytes 4 5 ++ leBytes 28 rest))

theorem witness_HeaderRefused :
    headerValid (headerOf (2 ^ 64 - 64) 64 16 (2 ^ 64 - 2048) (2 ^ 64 - 256) 0) = true ∧
    headerValid (headerOf (2 ^ 64 - 64) 128 16 (2 ^ 64 - 2048) (2 ^ 64 - 256) 0) = false ∧
    headerValid (headerOf (2 ^ 64 - 64) 64 32 (2 ^ 64 - 2048) (2 ^ 64 - 256) 0) = false ∧
    headerValid (headerOf (2 ^ 64 - 64) 64 16 (2 ^ 64 - 2048) (2 ^ 64 - 192) 0) = false ∧
    headerValid (headerOf 64 1048640 16 128 64 0) = false ∧ headerValid (headerOf 64 64 8192 128 64 0) = false ∧
    headerValid (headerOf 64 64 16 64 64 0) = false ∧ headerValid (headerOf 64 64 16 128 64 1) = false ∧
    headerValid 0#512 = false ∧ (headerIn .draining).regs.headerRead = some ⟨0x8000#64, 0#48⟩ ∧
    (headerIn .draining).regs.run ≠ .starting := by decide +kernel

theorem witness_BusErrorHalts :
    (let s := headerIn .starting
     s.regs.run = .starting ∧ (s.readIssued .headerRead).isSome = true ∧ s.readIssued .cueFetch = none) ∧
    (let s : State := { inRun .draining with
      regs := { (inRun .draining).regs with busMaster := false }
      writer := { ResultWriter.reset with statusWrite := some ⟨0, []⟩, presented := [.consumedRead, .statusWrite] } }
     s.regs.run = .draining ∧ s.writeInFlight .statusWrite = true ∧ s.regs.busMaster = false ∧
      s.writer.inTurn .statusWrite = true) ∧
    { ResultWriter.reset with presented := [.recordWrite, .statusWrite] }.inTurn .statusWrite = false ∧
    (let s : State := { headerIn .starting with pace := { PaceGenerator.reset with stamp := 50000#48 } }
     s.readIssued .headerRead = some 0#48 ∧ 50000 ≤ (s.pace.stamp - 0#48).toNat) ∧
    ¬ (State.reset.regs.run = .starting ∨ State.reset.regs.run = .running ∨ State.reset.regs.run = .draining) := by
  decide

theorem witness_DrainingEnds :
    (let s : State := { inRun .draining with
      writer := { ResultWriter.reset with state := .waiting, held := [.note 1#32] } }
     s.regs.run = .draining ∧ s.regs.drainedStarting = false ∧ s.writer.final = .notReached ∧
      s.regs.headerRead = none ∧ s.reader.fetch = none ∧ s.writer.consumedRead = none ∧ s.writer.recordWrite = none ∧
      s.writer.statusWrite = none ∧ s.delivery.copy = none ∧ s.writer.state = .waiting) ∧
    (inRun .draining).writer.held = [] ∧
    (let s : State := { inRun .draining with writer := { ResultWriter.reset with final := .accepted } }
     s.regs.run = .draining ∧ s.regs.headerRead = none ∧ s.writer.final = .accepted) ∧
    (let s : State := { inRun .draining with regs := { (inRun .draining).regs with drainedStarting := true } }
     s.writer.final = .notReached ∧ s.regs.drainedStarting = true) ∧
    (let s : State := { inRun .draining with writer := { ResultWriter.reset with
      state := .idle, final := .issued, statusWrite := some ⟨0, []⟩, presented := [.statusWrite] } }
     s.regs.run = .draining ∧ s.regs.headerRead = none ∧ s.writer.final = .issued ∧
      s.writer.statusWrite = some ⟨0, []⟩ ∧ s.regs.busMaster = true ∧ s.writer.inTurn .statusWrite = true) ∧
    (∀ x ∈ [(WriterState.idle, []), (.waiting, [ResultRecord.note 1#32])],
      let s : State := { inRun .draining with writer := { ResultWriter.reset with state := x.1, held := x.2 } }
      s.drained = true ∧ s.matcher.state = .stopped ∧ s.reader.state = .off) ∧
    Instr.tickTimerExpiry [] ≠ .drainingEndReached ∧ Instr.tickTimerExpiry [] ≠ .reset ∧
    (2#32).setWidth 8 ≠ 0x0F#8 := by
  decide

/-- R193: the end of DRAINING is reached at STOP where nothing is in flight, and a tick then makes no status write; while
a fetch is still in flight it makes one. -/
theorem test_tick_at_end_of_draining :
    (∃ t, exec .stop running = .next t ∧ t.drained = true ∧ (t.observe .resultWriter).writer.statusWrite = none ∧
      (State.observe { t with reader := { t.reader with fetch := some ⟨0, 0, 0#64, 0#48, false⟩ } }
        .resultWriter).writer.statusWrite.isSome) := ⟨_, rfl, by decide +kernel⟩

theorem witness_LockRunFollowsPulses :
    State.reset.straps.referencePresent = true ∧ State.reset.pace.previousPulse = none ∧
    (State.powerOn ⟨.parallel, true, false⟩).straps.referencePresent = false ∧
    (let interval := fun now : Nat => ((pulsed PaceGenerator.reset now).pace.stamp - 1000000#48).toNat
     interval 1003999 < 4000 ∧ 100000 < interval 1100001 ∧ interval 1004000 = 4000 ∧ interval 1100000 = 100000) ∧
    (pulsed PaceGenerator.reset 1004000).pace.previousPulse = some 1000000#48 ∧
    PaceGenerator.reset.state = .free ∧ PaceGenerator.reset.runCount = 0 ∧
    (∀ x ∈ [1, 2], (let g := { PaceGenerator.reset with runCount := x, runBase := some 40000 }
      1 ≤ g.runCount ∧ g.runCount ≤ 2 ∧ g.runBase = some 40000)) ∧
    { PaceGenerator.reset with runCount := 3, runBase := some 40000 }.runCount ≤ 3 ∧
    PaceGenerator.reset.droppedRun = none ∧
    (let g : PaceGenerator := { PaceGenerator.reset with droppedRun := some (3, some 40000), tickAt := some 1040401#48 }
     let s := pulsed g 1040401
     s.pace.tickAt = some s.pace.stamp ∧ (s.pace.stamp - 1000000#48).toNat = 40401) ∧
    (((40400 : Nat) : Int) - (40000 : Nat)).natAbs * 100 ≤ 40000 ∧
    40000 < (((40401 : Nat) : Int) - (40000 : Nat)).natAbs * 100 := by decide

theorem witness_LockedPulsesTick :
    (let g : PaceGenerator := { PaceGenerator.reset with state := .holdover, runCount := 3, runBase := some 40000 }
     let s := pulsed g 1040400
     s.straps.referencePresent = true ∧ s.pace.previousPulse = some 1000000#48 ∧ s.pace.state = .holdover ∧
      s.pace.runCount = 3 ∧ s.pace.runBase = some 40000 ∧ (s.pace.stamp - 1000000#48).toNat = 40400) ∧
    PaceGenerator.reset.droppedRun = none ∧
    (let g : PaceGenerator := { PaceGenerator.reset with droppedRun := some (3, some 40000), tickAt := some 1039600#48 }
     let s := pulsed g 1039600
     s.pace.state = .free ∧ s.pace.droppedRun = some (3, some 40000) ∧ s.pace.tickAt = some s.pace.stamp ∧
      (s.pace.stamp - 1000000#48).toNat = 39600 ∧ (((39600 : Nat) : Int) - (40000 : Nat)).natAbs * 100 ≤ 40000) ∧
    (let s := pulsed referenced 1100000
     s.pace.state = .referenced ∧ (s.pace.stamp - 1000000#48).toNat = 100000) := by decide

/-- R40: a lock pulse at the stamp of the holdover tick that reached the limit completes lock, whichever of the two is
taken first. -/
theorem test_lock_pulse_meets_limit :
    let g : PaceGenerator := { PaceGenerator.reset with
      state := .holdover, measured := some 40000, holdoverCount := 239, timer := some ⟨1000000#48, 40000⟩
      runCount := 3, runBase := some 40000 }
    let s := pulsed g 1040000
    (∃ t, exec (.referencePulse []) (s.timerTick ⟨1000000#48, 40000⟩ []) = .next t ∧ t.pace.state = .referenced ∧
      t.pace.measured = some 40000 ∧ t.pace.timer = none) ∧
    (∃ t, exec (.referencePulse []) s = .next t ∧ t.pace.state = .referenced) :=
  ⟨⟨_, rfl, by decide +kernel⟩, ⟨_, rfl, by decide +kernel⟩⟩

theorem witness_HoldoverBegins :
    (let s := pulsed referenced 1060000
     s.pace.state = .referenced ∧ s.pace.previousPulse = some 1000000#48 ∧ s.pace.measured = some 40000 ∧
      s.pace.deadline = some ⟨1000000#48, 60000⟩ ∧ 60000 ≤ (s.pace.stamp - 1000000#48).toNat ∧
      1 < s.settings.pace.holdoverLimit) ∧
    (let s := pulsed referenced 1003999
     s.straps.referencePresent = true ∧ (s.pace.stamp - 1000000#48).toNat < 4000 ∧
      (s.pace.stamp - 1000000#48).toNat ≤ 40000) ∧ 40000 < 60000 ∧ 40000 < 100001 ∧
    (let s : State := { pulsed referenced 1100001 with
      settings := { State.reset.settings with pace := ⟨41667, 1⟩ } }
     100000 < (s.pace.stamp - 1000000#48).toNat ∧ s.settings.pace.holdoverLimit ≤ 1) := by decide

/-- R42, R47: the tick at the entry to HOLDOVER reaches the blocks, here the silence counts; a pulse earlier than T + P
gives them none. -/
theorem test_holdover_entry_ticks :
    let s : State := { pulsed referenced 1060000 with left := placed .rowLock }
    let early : State := { pulsed referenced 1003999 with left := placed .rowLock }
    (∃ t, exec (.lossDeadlineExpiry []) s = .next t ∧ t.left.silence = 1 ∧ t.regs.cause = 0x010#9) ∧
    (∃ t, exec (.referencePulse []) early = .next t ∧ t.left.silence = 0 ∧ t.regs.cause = 0x010#9) :=
  ⟨⟨_, rfl, by decide +kernel⟩, ⟨_, rfl, by decide +kernel⟩⟩

theorem witness_TimerTicks :
    (State.reset.pace.timer = some ⟨0#48, 41667⟩ ∧ (State.reset.pace.stamp - 0#48).toNat < 41667) ∧
    (let g : PaceGenerator := { PaceGenerator.reset with stamp := 41667#48 }
     g.timer = some ⟨0#48, 41667⟩ ∧ 41667 ≤ (g.stamp - 0#48).toNat ∧ g.state = .free) ∧
    (let g : PaceGenerator := { PaceGenerator.reset with
      state := .holdover, stamp := 41667#48, measured := some 40000, holdoverCount := 238 }
     g.state = .holdover ∧ min (g.holdoverCount + 1) 65535 < State.reset.settings.pace.holdoverLimit ∧
      State.reset.settings.pace.holdoverLimit ≤ min (239 + 1) 65535) := by decide

/-- RUNNING with a WAITING writer that holds a record. -/
def waiting : State :=
  { running with writer := { ResultWriter.reset with state := .waiting, held := [.note 1#32], nextSerial := 17#32 } }

theorem witness_TickReachesEveryBlock :
    [TickObserver.cueReader, .pairMatcher, .linkReceiver .right, .samplePort .rig].Nodup ∧
    { running.reader with state := .parked }.fetch = none ∧
    ({ running.reader with state := .parked, fetch := some ⟨0, 0, 0#64, 0#48, true⟩ } : CueReader).fetch.isSome ∧
    running.reader.state ≠ .parked ∧ (waiting.writer.state = .waiting ∧ waiting.regs.run = .running ∧
      waiting.writer.consumedRead = none ∧ waiting.writer.statusWrite = none ∧ waiting.writer.final = .notReached) ∧
    State.reset.writer.state = .stopped ∧
    ({ ResultWriter.reset with state := .idle, statusWrite := some ⟨0, []⟩, final := .issued } : ResultWriter).statusWrite.isSome ∧
    ({ ResultWriter.reset with state := .idle, final := .accepted } : ResultWriter).final ≠ .notReached ∧
    (let s : State := { inRun .draining with writer := { ResultWriter.reset with state := .idle } }
     s.regs.run = .draining ∧ s.writer.state ≠ .stopped ∧ s.writer.statusWrite = none ∧
      s.regs.drainedStarting = false ∧ s.regs.headerRead = none ∧ s.reader.fetch = none ∧
      s.writer.consumedRead = none ∧ s.writer.recordWrite = none ∧ s.delivery.copy = none ∧ s.writer.held = []) := by
  decide

/-- A tick at a WAITING writer presents its consumed read and then its status write. -/
theorem test_tick_presents :
    (waiting.observe .resultWriter).writer.presented = [.consumedRead, .statusWrite] := by decide +kernel

theorem witness_MarksVerified :
    (markOf 4095).extractLsb' 0 32 = 0x9A6C35E1#32 ∧ ((markOf 4095).extractLsb' 32 16).toNat = 4095 ∧
    ((markOf 4095).extractLsb' 48 16).toNat = 65535 - 4095 ∧ { Receiver.reset with sync := .hunt }.scanFrom ≤ 0 ∧
    (let r : Receiver := { Receiver.reset with sync := .hunt, scanFrom := 9 }
     8 < r.scanFrom ∧ r.scanFrom ≤ 9) ∧ ((0x9A6C35E1#64).extractLsb' 48 16).toNat ≠ 65535 - 0 ∧
    (let r : Receiver := { Receiver.reset with sync := .verify, rowNumber := 4095 }
     r.rowLength = none ∧ r.foundPosition + 8 ≤ 8 ∧ 8202 ≤ r.foundPosition + 8202 ∧ r.foundPosition + 8202 < 8203 ∧
      ((markOf 0).extractLsb' 32 16).toNat = (r.rowNumber + 1) % 4096 ∧
      ((markOf 1).extractLsb' 32 16).toNat ≠ (r.rowNumber + 1) % 4096 ∧ (5#64).extractLsb' 0 32 ≠ 0x9A6C35E1#32) ∧
    (∀ n ∈ [1, 2], (let r : Receiver := { placed .verify with nextPosition := 660, furtherMarks := n }
     r.sync = .verify ∧ r.rowLength = some 330 ∧ r.nextPosition = 660 ∧ isOpener (markOf 7) = false ∧
      r.furtherMarks = n ∧ ((markOf 7).extractLsb' 32 16).toNat = r.rowNumber + 1)) ∧ isOpener 5#64 = false ∧
    (placed .hunt).sync ≠ .off ∧ (placed .rowLock).sync ≠ .hunt ∧ Receiver.reset.sync = .off := by
  decide

/-- R4: the bytes of a mark delivered in OFF are discarded, and the scan that follows OFF does not find it. -/
theorem test_mark_in_off :
    exec (.huntMarkFound .left 100 (markOf 5)) running = .next (withLeft { Receiver.reset with scanFrom := 108 }) ∧
    (let hunting : Receiver := { Receiver.reset with sync := .hunt, scanFrom := 108 }
     exec (.huntMarkFound .left 100 (markOf 5)) (withLeft hunting) = .next (withLeft hunting)) := ⟨by rfl, by rfl⟩

theorem witness_RowsJudged :
    let body : List Byte := List.replicate 322 0#8
    let twice : Receiver := { placed .frameLock with history := [false, true, true] }
    body.length + 8 = 330 ∧ isOpener (markOf 7) = false ∧ isOpener 5#64 = false ∧
    (placed .rowLock).rowLength = some 330 ∧ (placed .rowLock).filling = none ∧
    (placed .rowLock).judge (markOf 7) = true ∧
    twice.judge 5#64 = false ∧ lostAlignment ((false :: twice.history).take 8) = true ∧
    lostAlignment ((false :: (placed .frameLock).history).take 8) = false ∧
    (placed .verify).sync = .verify ∧ (placed .verify).rowLength = some 330 ∧ Receiver.reset.sync = .off ∧
    (placed .hunt).sync = .hunt ∧ (atRow 5).left.filling.isSome ∧ ((atRow 5).store.slot 0).isFilling = true := by
  decide +kernel

/-- Alignment lost with a frame being filled: the frame is cut, its slot FREE, and a TRACKING matcher is told. -/
theorem test_alignment_lost :
    (∃ t, exec (.rowPosition .left 5#64 (List.replicate 322 0#8)) { atRow 5 with
        left := { (atRow 5).left with history := [false, true, true] }
        matcher := { running.matcher with state := .tracking, alarm := .fired } } = .next t ∧
      t.left.sync = .hunt ∧ t.left.filling = none ∧ t.left.counters.cuts = 1#32 ∧ t.store.slot 0 = .free ∧
      t.matcher.state = .acquire ∧ t.matcher.alarm = .armed ∧ t.regs.cause = 0x008#9) := ⟨_, rfl, by decide +kernel⟩

theorem witness_RowStored :
    let body : List Byte := List.replicate 322 0#8
    (atRow 127).left.sync = .frameLock ∧ (atRow 127).left.rowLength = some 330 ∧ body.length + 8 = 330 ∧
    isOpener (markOf 7) = false ∧ (atRow 127).left.judge (markOf 7) = true ∧
    (atRow 127).left.filling = some { filling with rowsReceived := 127 } ∧
    (atRow 127).store.slot 0 = .filling (frameOf .left 900000) ∧ Memory.wf (atRow 127).store.mem = true ∧
    127 < filling.format.height ∧ (atRow 128).left.filling = some { filling with rowsReceived := 128 } ∧
    filling.format.height ≤ 128 ∧
    (let p : ProbeSetting := ⟨[0, 127], 1⟩
     profiledRows p 128 .left = [0, 127] ∧ (1 ∈ profiledRows p 128 .right) ∧ 126 ∈ profiledRows p 128 .right ∧
      128 ∉ profiledRows p 128 .right ∧ 2 ∉ profiledRows p 128 .right ∧ profiledRows ⟨[5], 16⟩ 128 .left = [] ∧
      profiledRows ⟨[5, 6], 0⟩ 128 .left = []) := by decide +kernel

/-- A row stored at row index 1 of slot 0: its bytes at 320 and on, and the row before untouched. -/
theorem test_row_stored :
    (∃ t, exec (.rowPosition .left (markOf 7) (leBytes 2 0x0201 ++ List.replicate 318 0#8 ++ leBytes 2 0x0201)) (atRow 1) =
      .next t ∧ t.store.mem = [(320, 1#8), (321, 2#8)] ∧ t.left.counters.damagedRows = 0#32) :=
  ⟨_, rfl, by decide +kernel⟩

/-- R1: the words 0x0201 and 0xFFFF sum to 0x0200, modulo 65,536. -/
theorem test_row_check :
    ([1#8, 2#8, 0xFF#8, 0xFF#8, 0#8, 2#8] : List Byte).length % 2 = 0 ∧
    rowCheckGood [1#8, 2#8, 0xFF#8, 0xFF#8, 0#8, 2#8] = true ∧ rowCheckGood [1#8, 2#8, 0xFF#8, 0xFF#8, 0#8, 3#8] = false ∧
    rowCheckGood [0#8, 0#8] = true := by decide

theorem witness_HeadsJudged :
    headUnit.extractLsb' 0 32 = 0xC3A5F01E#32 ∧ headCheckGood headUnit = true ∧
    headCheckGood (0xC3A5F01E#192) = false ∧ (0xC3A5F01E#192).extractLsb' 0 32 = 0xC3A5F01E#32 ∧
    (placed .rowLock).sync = .rowLock ∧ (placed .rowLock).rowLength = some 330 ∧ fillingLeft.sync = .frameLock ∧
    fillingLeft.filling = some filling ∧ (atRow 5).store.slot 0 = .filling (frameOf .left 900000) ∧
    (placed .verify).sync = .verify ∧ (placed .verify).rowLength.isSome ∧ Receiver.reset.rowLength = none ∧
    (placed .hunt).sync = .hunt ∧ (placed .hunt).sync ≠ .off ∧ Receiver.reset.sync = .off := by decide +kernel

/-- R17: a Frame Head completes the frame being filled, with TAIL_MISSING and its missing rows, and no frame check. -/
theorem test_completed_by_head :
    (∃ t, exec (.frameHead .left headUnit) { atRow 127 with right := placed .frameLock } = .next t ∧
      t.store.slot 0 = .queued { frameOf .left 900000 with damagedRows := 1, flaws := ⟨true, true, false⟩ } ∧
      t.store.leftQueue = [0] ∧ t.left.filling.map (·.slot) = some 1) := ⟨_, rfl, by decide +kernel⟩

theorem witness_FrameArrivals :
    let s := withLeft (placed .frameLock)
    s.left.sync = .frameLock ∧ s.left.rowLength = some 330 ∧ s.left.filling = none ∧
    (headUnit.extractLsb' 64 16).toNat = s.settings.format.width ∧
    (headUnit.extractLsb' 80 16).toNat = s.settings.format.height ∧
    (headUnit.extractLsb' 96 8).toNat = s.settings.format.depth.bits ∧
    330 = s.settings.format.width * s.settings.format.depth.bits / 8 + 10 ∧
    (s.store.queue .left).length < 8 ∧ s.store.slots.findIdx? Slot.isFree = some 0 ∧
    8 ≤ ({ s.store with leftQueue := List.range 8 }.queue .left).length ∧
    (∀ x ∈ List.replicate 24 (Slot.held (frameOf .left 1)), x.isFree = false) ∧
    State.reset.settings.format.width ≠ (headUnit.extractLsb' 64 16).toNat := by decide +kernel

theorem witness_UnitsAtFrameEnd :
    tailUnit.extractLsb' 0 32 = 0xC3A5F02D#32 ∧ (0xC3A5F03C#64).extractLsb' 0 32 = 0xC3A5F03C#32 ∧
    (placed .verify).rowLength = some 330 ∧ (placed .verify).sync ≠ .frameLock ∧ (atRow 128).left.sync = .frameLock ∧
    (atRow 128).left.filling = some { filling with rowsReceived := 128 } ∧
    (atRow 128).store.slot 0 = .filling (frameOf .left 900000) ∧ Receiver.reset.sync = .off ∧
    { Receiver.reset with sync := .verify }.rowLength = none ∧ (placed .hunt).sync = .hunt := by decide +kernel

theorem witness_SilenceExpires :
    (let r : Receiver := { placed .rowLock with tickOwed := true, silence := 1 }
     r.tickOwed = true ∧ 1 ≤ r.silence ∧ r.sync = .rowLock) ∧
    (let r : Receiver := { fillingLeft with tickOwed := true, silence := 1 }
     r.tickOwed = true ∧ 1 ≤ r.silence ∧ r.sync = .frameLock) ∧
    (let r : Receiver := { placed .rowLock with tickOwed := true }
     r.tickOwed = true ∧ r.silence = 0 ∧ (r.sync = .rowLock ∨ r.sync = .frameLock)) ∧
    (let r : Receiver := { placed .verify with tickOwed := true }
     r.tickOwed = true ∧ ¬ (r.sync = .rowLock ∨ r.sync = .frameLock)) ∧
    (placed .rowLock).tickOwed = false ∧ (placed .rowLock).silence = 0 ∧
    (let r : Receiver := { placed .frameLock with silence := 1 }
     r.tickOwed = false ∧ 1 ≤ r.silence ∧ (r.sync = .rowLock ∨ r.sync = .frameLock)) ∧
    (∃ u, exec (.silenceExpiry .left) (withLeft (placed .rowLock)) = .next u) :=
  ⟨by decide, by decide, by decide, by decide, by decide, by decide, by decide, ⟨_, rfl⟩⟩

/-- The tick that reaches 2 in FRAME_LOCK moves the receiver to ROW_LOCK, and the slot of the cut frame is FREE. -/
theorem test_silence_cuts :
    (∃ t, exec (.silenceExpiry .left) { atRow 5 with
        left := { (atRow 5).left with tickOwed := true, silence := 1 } } = .next t ∧ t.left.sync = .rowLock ∧
      t.left.silence = 0 ∧ t.store.slot 0 = .free ∧ t.left.counters.cuts = 1#32) := ⟨_, rfl, by decide +kernel⟩

theorem witness_PairsFormed :
    (heads 900500 900000).head .left = some (0, frameOf .left 900500) ∧
    (heads 900500 900000).head .right = some (1, frameOf .right 900000) ∧
    (heads 900500 900000).matcher.leftMark.expired = false ∧ (heads 900500 900000).matcher.rightMark.expired = false ∧
    ((900500 : Nat) : Int) - (900000 : Nat) ≤ (heads 0 0).settings.matching.window ∧
    -((heads 0 0).settings.matching.window : Int) ≤ ((900000 : Nat) : Int) - (900500 : Nat) ∧
    (heads 900500 900000).matcher.table.length < 6 ∧ (heads 900500 900000).matcher.alarm = .armed ∧
    (heads 900500 900000).settings.matching.skewLimit < ((900500 : Nat) - (900000 : Nat) : Int).natAbs ∧
    ((900250 : Nat) - (900000 : Nat) : Int).natAbs ≤ (heads 0 0).settings.matching.skewLimit ∧
    6 ≤ (List.replicate 6 (entry .deliver .ready)).length := by decide

/-- Two heads within the window form unit 1, at most one act for each pair of frames. -/
theorem test_pair_formed :
    (heads 900500 900000).dispose.matcher.table.map (fun x => (x.unit, x.kind, x.disposition)) =
      [(1#32, .pair 500, .release)] ∧
    (heads 900500 900000).dispose.store.leftQueue = [] ∧ (heads 900500 900000).dispose.matcher.state = .tracking ∧
    (heads 900500 900000).dispose.matcher.skew = 500 ∧ (heads 900500 900000).dispose.matcher.alarm = .fired ∧
    (heads 900500 900000).dispose.regs.cause = 0x020#9 := by
  decide +kernel

theorem witness_OrphansDisposed :
    (let m : PairMatcher := { PairMatcher.reset with take := .opened, openStamp := 900000#48 }
     m.member 900000#48 = true ∧ m.table.length < 6 ∧ OrphanPolicy.single ≠ .drop) ∧
    PairMatcher.reset.member 900000#48 = false ∧ State.reset.settings.matching.policy = .drop ∧
    6 ≤ (List.replicate 6 (entry .deliver .ready)).length := by decide

theorem witness_HeadsExamined :
    (let s := heads 900000 900501
     s.head .left = some (0, frameOf .left 900000) ∧ s.head .right = some (1, frameOf .right 900501) ∧
      s.matcher.leftMark.expired = false ∧ s.matcher.rightMark.expired = false ∧
      ((900000 : Nat) : Int) - (900501 : Nat) < -(s.settings.matching.window : Int) ∧
      (s.settings.matching.window : Int) < ((900501 : Nat) : Int) - (900000 : Nat)) ∧
    { PairMatcher.reset with leftMark := ⟨2, true⟩ }.leftMark.expired = true ∧
    (let s := lone .frameLock
     s.head .left = some (0, frameOf .left 900000) ∧ s.head .right = none ∧ s.right.sync = .frameLock ∧
      s.matcher.leftMark.expired = false ∧ (lone .rowLock).right.sync ≠ .frameLock) ∧
    State.reset.head .left = none ∧ State.reset.head .right = none ∧ State.reset.matcher.state = .stopped ∧
    State.reset.examine = none ∧ running.matcher.state ≠ .stopped ∧ (heads 900000 900501).examine.isSome := by
  decide +kernel

/-- A pass disposes of head after head until none is left to dispose of: the earlier head of two, and then the other,
whose link is not in FRAME_LOCK. -/
theorem test_pass_goes_on :
    (heads 900000 900501).pass.matcher.orphansDropped = 2#32 ∧ (heads 900000 900501).pass.store.leftQueue = [] ∧
    (heads 900000 900501).pass.store.rightQueue = [] := by decide +kernel

theorem witness_TakeMembership :
    (let m : PairMatcher := { PairMatcher.reset with take := .closing, openStamp := 10#48, closeStamp := some 20#48 }
     m.member 10#48 = true ∧ m.member 20#48 = true ∧ m.member 9#48 = false ∧ m.member 21#48 = false) ∧
    PairMatcher.reset.take = .closed ∧
    { PairMatcher.reset with take := .opened, openStamp := 10#48 }.member 10#48 = true := by decide

/-- 04, Example: seeding, following and the alarm: an estimate of 200 with d = 250 becomes 206, with d = 150, 194; the
alarm at its limits. -/
theorem witness_SkewTracked :
    PairMatcher.nextSkew { PairMatcher.reset with state := .tracking, skew := 200 } 250 = 206 ∧
    PairMatcher.nextSkew { PairMatcher.reset with state := .tracking, skew := 200 } 150 = 194 ∧
    PairMatcher.nextSkew { PairMatcher.reset with state := .acquire, skew := 200 } 250 = 250 ∧
    nextAlarm .armed 250 250 = .armed ∧ nextAlarm .armed (-251) 250 = .fired ∧ nextAlarm .fired 187 250 = .armed ∧
    nextAlarm .fired 188 250 = .fired := by decide

theorem witness_PartnerWaitExpires :
    (let s : State := { lone .frameLock with
       matcher := { running.matcher with tickOwed := true, leftMark := ⟨1, false⟩ } }
     s.matcher.state ≠ .stopped ∧ s.matcher.tickOwed = true ∧ (s.head .left).isSome ∧
      (s.matcher.mark .left).expired = false ∧ s.store.queue .right = [] ∧ s.right.sync = .frameLock ∧
      s.settings.matching.partnerWait ≤ (s.matcher.mark .left).count + 1 ∧ (s.head .right).isSome = false) ∧
    (let s := lone .frameLock
     s.matcher.tickOwed = false ∧ ¬ s.settings.matching.partnerWait ≤ (s.matcher.mark .left).count + 1) ∧
    (let s : State := { running with matcher := { running.matcher with take := .closing, closeStamp := some 900000#48 } }
     s.matcher.state ≠ .stopped ∧ s.matcher.tickOwed = false ∧ s.matcher.take = .closing ∧
      s.takeTick.matcher.take = .closed) ∧
    State.reset.matcher.state = .stopped := by decide +kernel

/-- The take CLOSING, with one frame in each queue after the close stamp, and the matcher owing a tick. -/
def closing (c : Nat) : State :=
  { heads c c with
    matcher := { running.matcher with take := .closing, closeStamp := some 900000#48, tickOwed := true } }

theorem witness_TakeCloses :
    (let s := closing 900001
     s.matcher.state ≠ .stopped ∧ s.matcher.take = .closing ∧ s.matcher.closeStamp = some 900000#48 ∧
      s.closable = true ∧ s.delivery.copy = none ∧ s.writer.held.length + s.writer.reserved < 8) ∧
    (closing 900000).closable = false ∧
    (closing 900001).matcher.tickOwed = true ∧ running.matcher.tickOwed = false ∧
    (closing 900001).takeOwedTick.matcher.take = .closed := by decide +kernel

/-- 04, Takes: the close completes at the close check of CLOSE TAKE itself, and a second CLOSE TAKE is NO_TAKE. -/
theorem test_close_at_first_check :
    let cues := Cue.closeTake.bytes ++ Cue.closeTake.bytes
    (∃ t, exec .closeTake { running with
        reader := { running.reader with buffer := cues, fetchPointer := 8 }
        matcher := { running.matcher with take := .opened } } = .next t ∧ t.matcher.take = .closed ∧
      t.reader.state = .faulted .noTake false ∧ t.writer.held.length = 2) := ⟨_, rfl, by decide +kernel⟩

theorem witness_CharactersTaken :
    (let p : SamplePort := { SamplePort.reset with reception := .collecting 0#48 [0x7E#8] }
     p.reception = .collecting 0#48 [0x7E#8] ∧ 2000 ≤ ((2000#48 : Stamp) - 0#48).toNat) ∧
    (List.replicate 9 0#8).length ≤ 9 ∧ 10 ≤ (List.replicate 10 0#8).length ∧ running.regs.run = .running ∧
    running.rig.reception = .awaiting ∧ State.reset.regs.run ≠ .running := by decide

/-- A lens message: focus 0, iris 100, zoom 1; and a rig message: interaxial 200,000, convergence -500,000. -/
theorem witness_MessagesJudged :
    messageGood .leftLens ([0x7E#8, 0x4C#8, 0#8, 0#8, 0#8, 0#8, 100#8, 0#8, 1#8, 0#8] ++ [0xD1#8]) = true ∧
    messageGood .leftLens ([0x7E#8, 0x4C#8, 0#8, 0#8, 0#8, 0#8, 100#8, 0#8, 1#8, 0#8] ++ [0xD2#8]) = false ∧
    (let rig := [0x7E#8, 0x52#8] ++ leBytes 4 200000 ++ leInt 4 (-500000)
     rig.length = 10 ∧ messageGood .rig (rig ++ [BitVec.ofNat 8 (256 - (rig.map BitVec.toNat).sum % 256)]) = true) ∧
    (List.replicate 4 (⟨0#48, 0#64⟩ : Sample)).length = 4 ∧ running.leftLens.stack.length < 4 := by decide

theorem witness_SamplesSelected :
    (let y : Sample := ⟨1034000#48, 5#64⟩
     let x : SampleSetting := ⟨2000, 50000⟩
     y.stamp.toNat ≤ 1041667 + x.lead ∧ 1041667 - x.maxAge ≤ y.stamp.toNat ∧ ¬ 1044000 ≤ 1041667 + x.lead ∧
     SamplePort.select ⟨.awaiting, [⟨1024000#48, 4#64⟩, y, ⟨1044000#48, 6#64⟩, ⟨1054000#48, 7#64⟩], 0#32, 0#32⟩ x
       1041667#48 = some 5#64) := by decide

/-- A profile of one value on every band. -/
def flat (row value : Nat) : RowProfile := ⟨row, List.replicate 32 value, false⟩

/-- A measurement on two probe rows whose RIGHT rows lie one row lower. -/
def shiftedOne : InProgress :=
  { unit := 1#32, rows := [3, 10], range := 1, left := [flat 3 5, flat 10 9]
    right := [flat 2 50, flat 3 60, flat 4 5, flat 9 50, flat 10 60, flat 11 9], begun := 0#48 }

theorem witness_MeasurementsMade :
    (let s : State := { withEntry (entry .release .measuring) with align := { AlignmentUnit.reset with looking := true } }
     s.align.looking = true ∧ s.align.busy = none ∧ s.regs.run = .running ∧
      s.matcher.table = [] ++ entry .release .measuring :: [] ∧ (entry .release .measuring).state = .measuring) ∧
    measuring.unit = (entry .deliver .measuring).unit ∧ (entry .deliver .measuring).disposition = .deliver ∧
    (entry .release .measuring).disposition = .release ∧ measuring.finding 64 = .disabled ∧
    (2 ≤ shiftedOne.rows.length ∧ 1 ≤ shiftedOne.range) ∧ shiftedOne.finding 64 = .valid ⟨1, 1376⟩ ∧
    shiftedOne.finding 1376 = .valid ⟨1, 1376⟩ ∧ shiftedOne.finding 1377 = .invalid ∧
    { shiftedOne with right := [flat 4 5, flat 11 9] }.finding 0 = .invalid := by decide +kernel

theorem witness_TrackerSettles :
    (let a : AlignmentUnit := { AlignmentUnit.reset with candidate := some 2, agreement := 2 }
     (2 : Int) ≠ a.offset ∧ a.candidate = some 2 ∧ State.reset.settings.track.settleCount ≤ a.agreement + 1 ∧
      a.candidate ≠ some 1 ∧ a.offset = 0) ∧ State.reset.settings.track.mode = .auto := by decide

/-- A target of a size for the small format. -/
def targetOf (size : Nat) : Target := { tag := 3#16, size := BitVec.ofNat 32 size, address := 0x40#64 }

theorem witness_DeliveryStarts :
    (let s : State := { withEntry (entry .deliver .ready) with
      delivery := { DeliveryEngine.reset with targets := [targetOf 81920] } }
     s.regs.run = .running ∧ s.delivery.copy = none ∧ s.writer.held.length + s.writer.reserved < 8 ∧
      s.matcher.table = entry .deliver .ready :: [] ∧ s.delivery.targets = targetOf 81920 :: [] ∧
      2 * small.height * (small.width * small.depth.bits / 8) ≤ (targetOf 81920).size.toNat) ∧
    (targetOf 81919).size.toNat < 2 * small.height * (small.width * small.depth.bits / 8) := by decide

theorem witness_CopyCompletes :
    let c : Copy := { target := targetOf 81920, format := small, orientLeft := .normal, orientRight := .normal, fill := 0#16, accepted := 0 }
    let s : State := { withEntry (entry .deliver .delivering) with
      delivery := { DeliveryEngine.reset with copy := some c }
      store := { running.store with slots := running.store.slots.set 0 (.held (frameOf .left 5)) } }
    s.regs.busMaster = true ∧ s.delivery.copy = some c ∧ s.matcher.table = [] ++ entry .deliver .delivering :: [] ∧
    (entry .deliver .delivering).state = .delivering ∧ (entry .deliver .delivering).kind = .pair 0 ∧
    (entry .deliver .delivering).left = some ⟨0, 5#48, 7#16, none⟩ ∧ s.store.slot 0 = .held (frameOf .left 5) ∧
    { entry .deliver .delivering with kind := .orphan .left false, right := none }.right = none ∧
    ([1#8, 2#8, 3#8] : List Byte).length % 3 = 0 ∧ 1 * 12 < 8 * 3 ∧ [4095, 0].length * 12 % (8 * 3) = 0 ∧
    (∀ p ∈ [4095, 0], p < 2 ^ 12) := by decide

/-- A tiny picture: 2 by 2 pixels of 16 bits, LEFT in slot 0 and RIGHT in slot 1. -/
def tiny (packing : Packing) : Copy :=
  { target := targetOf 16, format := ⟨.sixteen, packing, 2, 2⟩, orientLeft := .rotate180, orientRight := .normal
    fill := 0xABCD#16, accepted := 0 }

/-- Slot memory with bytes 1 to 8 in slot 0 and 17 to 24 in slot 1. -/
def tinyMemory : Memory :=
  (List.range 8).map (fun i => (i, BitVec.ofNat 8 (i + 1))) ++
    (List.range 8).map fun i => (16777216 + i, BitVec.ofNat 8 (i + 17))

/-- A PAIR delivered: LEFT turned by 180°, RIGHT one row lower with a fill row, in both packings (R117, R118). -/
theorem test_pictures_delivered :
    let x := { entry .deliver .delivering with applied := some 1 }
    (tiny .sequential).writes tinyMemory x =
      [⟨0x40, [7, 8, 5, 6]⟩, ⟨0x44, [3, 4, 1, 2]⟩, ⟨0x48, [21, 22, 23, 24]⟩, ⟨0x4C, [0xCD, 0xAB, 0xCD, 0xAB]⟩] ∧
    ((tiny .rowPaired).writes tinyMemory x).map (·.address) = [0x40, 0x44, 0x48, 0x4C] ∧
    ((tiny .rowPaired).writes tinyMemory x).map (·.bytes) =
      [[7, 8, 5, 6], [21, 22, 23, 24], [3, 4, 1, 2], [0xCD, 0xAB, 0xCD, 0xAB]] := by decide +kernel

/-- The tiny picture being delivered, with a number of its four writes accepted and a status write in flight. -/
def delivering (accepted : Nat) (carried : List BusItem) : State :=
  { withEntry { entry .deliver .delivering with applied := some 1 } with
    carried := carried
    delivery := { DeliveryEngine.reset with copy := some { tiny .sequential with accepted := accepted } }
    writer := { ResultWriter.reset with state := .idle, reserved := 1, statusWrite := some ⟨0, []⟩ }
    store := { running.store with mem := tinyMemory } }

/-- R195: the Bus Port accepts target writes one after another, and all but the last leave the copy going on. -/
theorem test_rows_accepted :
    (∃ t, exec (.copyCompletion (some 1)) (delivering 0 []) = .next t ∧ t.carried = [.write ⟨0x40, [7, 8, 5, 6]⟩] ∧
      t.delivery.copy = some { tiny .sequential with accepted := 1 }) ∧
    (∃ t, exec (.copyCompletion (some 9)) (delivering 1 []) = .next t ∧
      t.delivery.copy = some { tiny .sequential with accepted := 3 }) :=
  ⟨⟨_, rfl, by decide +kernel⟩, ⟨_, rfl, by decide +kernel⟩⟩

/-- R195: a status write accepted after one target write lies before the others, which the copy's completion accepts; a
reset abandons only those not accepted. -/
theorem test_write_between_rows :
    (∃ t, exec .copyCompletion (delivering 1 [.write ⟨0x40, [7, 8, 5, 6]⟩, .write ⟨0, []⟩]) = .next t ∧
      t.carried = [.write ⟨0x40, [7, 8, 5, 6]⟩, .write ⟨0, []⟩, .write ⟨0x44, [3, 4, 1, 2]⟩,
        .write ⟨0x48, [21, 22, 23, 24]⟩, .write ⟨0x4C, [0xCD, 0xAB, 0xCD, 0xAB]⟩] ∧ t.delivery.pairs = 1#32) ∧
    (delivering 3 []).abandoned = [.abandoned [⟨0x4C, [0xCD, 0xAB, 0xCD, 0xAB]⟩, ⟨0, []⟩]] :=
  ⟨⟨_, rfl, by decide +kernel⟩, by decide +kernel⟩

/-- The writer with records held and a record write in flight. -/
def writing (rest : List ResultRecord) (consumed : BitVec 32) : State :=
  { running with
    writer := { ResultWriter.reset with
      state := .writing, held := .note 1#32 :: rest, recordWrite := some ⟨0, []⟩, nextSerial := 31#32
      lastSerial := 30#32, consumed := consumed, presented := [.recordWrite, .statusWrite] } }

theorem witness_RecordWritten :
    (writing [.note 2#32] 16#32).writer.recordWrite = some ⟨0, []⟩ ∧
    (writing [.note 2#32] 16#32).writer.held = .note 1#32 :: [.note 2#32] ∧
    (writing [] 16#32).regs.busMaster = true ∧ (writing [] 16#32).writer.inTurn .recordWrite = true ∧
    ({ ResultWriter.reset with presented := [.statusWrite, .recordWrite] } : ResultWriter).inTurn .recordWrite = false ∧
    (writing [] 16#32).writer.consumedRead = none ∧
    ({ (writing [] 16#32).writer with consumedRead := some ⟨0#64, 0#48⟩ } : ResultWriter).consumedRead =
      some ⟨0#64, 0#48⟩ ∧
    ((31#32 + 1#32 : BitVec 32) - 16#32).toNat ≤ running.regs.bases.ringEntries ∧
    running.regs.bases.ringEntries < ((31#32 + 1#32 : BitVec 32) - 15#32).toNat := by decide

/-- 07, Example: a short target behind a full ring: k = 20 gives 31 - 20 = 11 of 16. -/
theorem witness_WriterRepliesTaken :
    (∀ x ∈ [WriterState.waiting, .checking],
      let s : State := { writing [] 14#32 with
        writer := { (writing [] 14#32).writer with
          state := x, recordWrite := none, consumedRead := some ⟨0#64, 0#48⟩, presented := [.consumedRead] } }
      s.writer.consumedRead = some ⟨0#64, 0#48⟩ ∧ s.writer.held = .note 1#32 :: [] ∧ s.writer.state = x ∧
        s.writer.inTurn .consumedRead = true ∧ (s.writer.nextSerial - nextConsumed 20#32 30#32).toNat = 11 ∧
        (s.writer.nextSerial - nextConsumed 14#32 30#32).toNat = 17 ∧ nextConsumed 31#32 30#32 = 30#32 ∧
        (s.writer.nextSerial - nextConsumed 15#32 30#32).toNat = 16) ∧
    ({ ResultWriter.reset with statusWrite := some ⟨0, []⟩, presented := [.statusWrite] } : ResultWriter).inTurn
      .statusWrite = true ∧
    (writing [] 14#32).writer.inTurn .statusWrite = false ∧ running.regs.busMaster = true ∧
    [Access.recordWrite, .statusWrite] = [.recordWrite] ++ .statusWrite :: [] ∧ Access.statusWrite ∉ [.recordWrite] := by
  decide

/-- R195: the writer's writes are taken in the order it presented them. -/
theorem test_writes_in_turn :
    exec .statusWriteAccepted { writing [] 14#32 with
      writer := { (writing [] 14#32).writer with statusWrite := some ⟨0, []⟩ } } = .next { writing [] 14#32 with
      writer := { (writing [] 14#32).writer with statusWrite := some ⟨0, []⟩ } } := by rfl

/-- A DRAINING writer whose final status write is in flight. -/
def finalInFlight : State :=
  { inRun .draining with writer := { ResultWriter.reset with
      state := .idle, final := .issued, statusWrite := some ⟨0, []⟩, presented := [.statusWrite] } }

/-- R134: the writer is STOPPED after the final status write, and a tick before IDLE makes no other. -/
theorem test_final_status_stops :
    (∃ t, exec .statusWriteAccepted finalInFlight = .next t ∧ t.writer.state = .stopped ∧ t.writer.final = .accepted ∧
      t.writer.statusWrite = none ∧ t.regs.run = .draining ∧ t.statusTick.writer.statusWrite = none) :=
  ⟨_, rfl, by decide +kernel⟩

/-- RUNNING with an IDLE writer at a serial, the known consumed serial 0 and 16 entries in the ring. -/
def atSerial (n : BitVec 32) : State := { running with writer := { running.writer with nextSerial := n } }

theorem witness_RecordWritten_place :
    waiting.writer.state ≠ .idle ∧ (atSerial 16#32).writer.state = .idle ∧ (atSerial 16#32).writer.held ++ [.note 1#32] =
      .note 1#32 :: [] ∧
    ((atSerial 16#32).writer.nextSerial - (atSerial 16#32).writer.consumed).toNat ≤ running.regs.bases.ringEntries ∧
    running.regs.bases.ringEntries < ((atSerial 17#32).writer.nextSerial - (atSerial 17#32).writer.consumed).toNat ∧
    (atSerial 17#32).writer.consumedRead = none ∧
    { (atSerial 17#32).writer with consumedRead := some ⟨0#64, 0#48⟩ }.consumedRead ≠ none := by decide

/-- R129: a record placed in IDLE starts its write where it has room, and otherwise a consumed read. -/
theorem test_record_placed :
    ((atSerial 16#32).place (.note 1#32)).writer.state = .writing ∧
    ((atSerial 16#32).place (.note 1#32)).writer.recordWrite.map (·.address) = some (0x200000 + 128 * 15) ∧
    ((atSerial 17#32).place (.note 1#32)).writer.state = .checking ∧
    ((atSerial 17#32).place (.note 1#32)).writer.presented = [.consumedRead] ∧
    (waiting.place (.note 2#32)).writer.presented = [] ∧ (waiting.place (.note 2#32)).writer.held.length = 2 := by
  decide +kernel

theorem witness_DecodeGoesOn :
    (let s := withCue .pad
     s.reader.buffer.length ≤ 24 ∧ s.reader.fetch = none ∧ s.reader.fetchPointer < s.regs.bases.cueSize ∧
      s.reader.state.fetches = true ∧ s.reader.state = .running ∧ s.verdict = .ready .pad) ∧
    running.verdict = .needByte ∧ (withCue .ret).verdict = .fault .returnEmpty ∧
    State.verdict { running with reader := { running.reader with buffer := [0x58#8] } } = .stall ∧
    State.verdict { withCue (.openTake 1#32) with matcher := { running.matcher with take := .closing } } =
      .hold (.openTake 1#32) .takeClosing ∧
    State.reset.reader.state ≠ .running ∧ State.reset.reader.state ≠ .stalled := by decide +kernel

theorem witness_FetchReturns :
    let r : CueReader := { running.reader with fetch := some ⟨0, 0, 0x100000#64, 0#48, true⟩ }
    r.fetch = some ⟨0, 0, 0x100000#64, 0#48, true⟩ ∧ r.sequence = 0 ∧ r.state ≠ .off ∧ r.state ≠ .parked ∧
    { r with sequence := 1 }.sequence ≠ 0 ∧ { r with state := .off }.state = .off ∧
    byteAt ((leBytes 8 1).drop 0) 0 ≠ 0#8 ∧ byteAt ((leBytes 8 0).drop 0) 0 = 0#8 := by decide

/-- RUNNING as given, but the reader in another state. -/
def readerIn (s : State) (x : ReaderState) : State := { s with reader := { s.reader with state := x } }

theorem witness_ReaderWaitsEnd :
    (let s := readerIn running (.faulted .badValue true)
     s.reader.state = .faulted .badValue true ∧ s.writer.held.length + s.writer.reserved < 8) ∧
    (let s := readerIn (withCue (.note 5#32)) (.held .resultRoom)
     s.reader.state = .held .resultRoom ∧ s.verdict = .ready (.note 5#32) ∧
      (Cue.note 5#32).name ∈ [CueName.target, .note, .recall, .openTake, .format, .orient, .probes]) ∧
    (let s := readerIn (withCue (.target (targetOf 0))) (.held .targetRoom)
     s.reader.state = .held .targetRoom ∧ s.verdict = .ready (.target (targetOf 0))) ∧
    (let s := readerIn { withCue (.openTake 1#32) with matcher := { running.matcher with take := .closing } }
        (.held .resultRoom)
     s.reader.state = .held .resultRoom ∧ s.verdict = .hold (.openTake 1#32) .takeClosing) ∧
    (readerIn running (.waiting .lock 0 true)).reader.state = .waiting .lock 0 true := by decide +kernel

/-- A held NOTE executes: the cursor past it, its record placed. -/
theorem test_hold_released :
    (∃ t, exec .holdRelease (readerIn (withCue (.note 5#32)) (.held .resultRoom)) = .next t ∧ t.reader.cursor = 8 ∧
      t.reader.executed = 1#32 ∧ t.writer.held = [.note 5#32]) := ⟨_, rfl, by decide +kernel⟩

/-- RUNNING with OPEN TAKE at the cursor and the take CLOSING, the next word at a pointer. -/
def holding (pointer : Nat) : State :=
  { withCue (.openTake 1#32) with
    matcher := { running.matcher with take := .closing }
    reader := { (withCue (.openTake 1#32)).reader with fetchPointer := pointer } }

theorem witness_ReaderWaitsEnd_cues :
    (holding 8).reader.state = .running ∧ (holding 8).verdict = .hold (.openTake 1#32) .takeClosing ∧
    (holding 8).reader.buffer.length ≤ 24 ∧ (holding 8).reader.fetch = none ∧
    (holding 8).reader.fetchPointer < (holding 8).regs.bases.cueSize ∧
    (holding 4096).verdict = .hold (.openTake 1#32) .takeClosing ∧
    ¬ (holding 4096).reader.fetchPointer < (holding 4096).regs.bases.cueSize ∧ (withCue .pad).verdict = .ready .pad ∧
    State.reset.reader.state ≠ .running := by decide +kernel

/-- A NOTE command with PAD at the cursor: no cue of its name passes the checks there. -/
theorem witness_ReaderWaitsEnd_other (c : Cue) (h : c.name = .note) :
    (withCue .pad).verdict ≠ .ready c ∧ ∀ reason, (withCue .pad).verdict ≠ .hold c reason := by
  have pad : (withCue .pad).verdict = .ready .pad := by decide +kernel
  rw [pad]
  exact ⟨fun e => by (cases e; cases h), fun _ e => by cases e⟩

/-- R148: an OPEN TAKE command with the take CLOSING holds, and fetching goes on. -/
theorem test_cue_command_holds :
    (∃ t, exec .openTake (holding 8) = .next t ∧ t.reader.state = .held .takeClosing ∧ t.reader.cursor = 0 ∧
      t.reader.buffer.length = 9 ∧ t.reader.executed = 0#32 ∧
      t.reader.fetch = some ⟨0, 8, 0x100008#64, 1000000#48, false⟩) ∧
    exec .note (withCue .pad) = .next (withCue .pad) := ⟨⟨_, rfl, by decide +kernel⟩, by rfl⟩

theorem witness_FlowCuesExecute :
    (withCue .park).standsReady .park ∧ (withCue .pad).standsReady .pad ∧
    (withCue (.jump 4095)).standsReady (.jump 4095) ∧ (withCue (.call 0)).standsReady (.call 0) ∧
    State.standsReady { withCue .ret with reader := { (withCue .ret).reader with stack := [8] } } .ret ∧
    (withCue (.eye .both)).standsReady (.eye .both) := by unfold State.standsReady; decide +kernel

theorem witness_FormatCuesExecute :
    (withCue (.format small)).standsReady (.format small) ∧ (withCue (.orient .flipRows)).standsReady (.orient .flipRows) ∧
    (withCue (.probes ⟨[0, 127], 16⟩)).standsReady (.probes ⟨[0, 127], 16⟩) := by
  unfold State.standsReady; decide +kernel

/-- MATCH with a partner wait of 1 at the cursor, and a LEFT head that has waited for a number of ticks. -/
def lowered (count : Nat) : State :=
  { withCue (.matching ⟨1, 1, .single, 1⟩) with
    right := placed .frameLock
    store := (lone .frameLock).store
    matcher := { running.matcher with leftMark := ⟨count, false⟩ } }

theorem witness_SettingCuesExecute :
    (withCue (.matching ⟨1, 1, .single, 1⟩)).standsReady (.matching ⟨1, 1, .single, 1⟩) ∧
    (withCue (.track ⟨.fixed, 8, 0, -16, 9#16⟩)).standsReady (.track ⟨.fixed, 8, 0, -16, 9#16⟩) ∧
    (withCue (.samples ⟨0, 1000⟩)).standsReady (.samples ⟨0, 1000⟩) ∧
    (withCue (.pace ⟨4000, 1⟩)).standsReady (.pace ⟨4000, 1⟩) ∧
    (let s := withCue (.pace ⟨4000, 1⟩)
     let met : State := { s with pace := { s.pace with tickAt := some s.pace.stamp } }
     met.standsReady (.pace ⟨4000, 1⟩) ∧ met.pace.state = .free ∧ met.pace.droppedRun = none ∧
      s.pace.tickAt ≠ some s.pace.stamp) ∧
    (let s := lowered 1
     s.standsReady (.matching ⟨1, 1, .single, 1⟩) ∧ (s.head .left).isSome ∧ (s.matcher.mark .left).expired = false ∧
      s.store.queue .right = [] ∧ s.right.sync = .frameLock ∧ 1 ≤ (s.matcher.mark .left).count) ∧
    (lowered 0).standsReady (.matching ⟨1, 1, .single, 1⟩) ∧ ¬ 1 ≤ ((lowered 0).matcher.mark .left).count := by
  unfold State.standsReady; decide +kernel

/-- R55: MATCH lowers the partner wait to 1, and its pass disposes of the head that has waited one tick. -/
theorem test_match_expires :
    (∃ t, exec .matchCue (lowered 1) = .next t ∧ t.store.leftQueue = [] ∧ t.matcher.orphansDropped = 1#32) ∧
    (∃ t, exec .matchCue (lowered 0) = .next t ∧ t.store.leftQueue = [0]) :=
  ⟨⟨_, rfl, by decide +kernel⟩, ⟨_, rfl, by decide +kernel⟩⟩

/-- R46: PACE at the stamp of a FREE tick, whichever of the two is taken first, times the interval with the new F. -/
theorem test_pace_meets_tick :
    let s : State := { withCue (.pace ⟨4000, 1⟩) with
      pace := { State.reset.pace with stamp := 1000000#48, timer := some ⟨958333#48, 41667⟩ } }
    (∃ t, exec .pace (s.timerTick ⟨958333#48, 41667⟩ []) = .next t ∧ t.pace.timer = some ⟨1000000#48, 4000⟩) :=
  ⟨_, rfl, by decide +kernel⟩

/-- R46: PACE after the tick that ended HOLDOVER, at its stamp: the first FREE tick keeps its due time. -/
theorem test_pace_after_limit_tick :
    let s : State := { withCue (.pace ⟨4000, 1⟩) with
      pace := { State.reset.pace with
        stamp := 1000000#48, state := .holdover, measured := some 40000, holdoverCount := 239
        timer := some ⟨960000#48, 40000⟩ } }
    (∃ t, exec .pace (s.timerTick ⟨960000#48, 40000⟩ []) = .next t ∧ t.pace.state = .free ∧
      t.pace.timer = some ⟨1000000#48, 41667⟩) := ⟨_, rfl, by decide +kernel⟩

theorem witness_LinkCueExecutes :
    (withCue (.link false)).standsReady (.link false) ∧
    State.standsReady { withCue (.link false) with left := (atRow 5).left, store := (atRow 5).store } (.link false) ∧
    ((atRow 5).store.slot 0).isFilling = true ∧ (atRow 5).left.sync = .frameLock ∧ running.matcher.take ≠ .closing ∧
    State.standsReady { withCue (.link true) with
      reader := { (withCue (.link true)).reader with eyePrefix := some (.only .right) } } (.link true) := by
  unfold State.standsReady; decide +kernel

/-- LINK with enable 0 for both eyes out of FRAME_LOCK: the frame is cut and its slot FREE. -/
theorem test_link_off_cuts :
    (∃ t, exec .link { withCue (.link false) with left := (atRow 5).left, store := (atRow 5).store } = .next t ∧
      t.left.sync = .off ∧ t.store.slot 0 = .free ∧ t.left.counters.cuts = 1#32) := ⟨_, rfl, by decide +kernel⟩

theorem witness_TargetAndTakeCuesExecute :
    (withCue (.target (targetOf 0))).standsReady (.target (targetOf 0)) ∧ (withCue .recall).standsReady .recall ∧
    (withCue (.openTake 0#32)).standsReady (.openTake 0#32) ∧ (withCue (.note 0#32)).standsReady (.note 0#32) ∧
    State.standsReady { withCue .closeTake with matcher := { running.matcher with take := .opened } } .closeTake := by
  unfold State.standsReady; decide +kernel

theorem witness_WaitsBegin :
    (withCue (.wait .takeClosed)).standsReady (.wait .takeClosed) ∧ (withCue (.wait .lock)).standsReady (.wait .lock) ∧
    running.matcher.take = .closed ∧ running.left.sync ≠ .frameLock ∧
    (readerIn running (.waiting (.ticks 1) 0 false)).reader.state = .waiting (.ticks 1) 0 false ∧
    (readerIn running (.waiting (.pairs 2) 0 false)).reader.state = .waiting (.pairs 2) 0 false ∧
    (readerIn running (.waiting .lock 0 false)).reader.state = .waiting .lock 0 false ∧
    (readerIn running (.waiting .takeClosed 0 false)).reader.state = .waiting .takeClosed 0 false := by
  unfold State.standsReady; decide +kernel

theorem witness_CueBytesDecode :
    (Cue.format ⟨.sixteen, .rowPaired, 4096, 2048⟩).inRange 1048576 4096 = true ∧
    (Cue.probes ⟨[0, 1, 2, 3, 4, 5, 6, 4095], 16⟩).inRange 1048576 4096 = true ∧
    (Cue.jump 1048575).inRange 1048576 4096 = true ∧ (Cue.track ⟨.fixed, 8, 65535, -16, 0xFFFF#16⟩).inRange 64 128 = true ∧
    (Cue.target ⟨0#16, 0xFFFFFFC0#32, 0xFFFFFFFF00000040#64⟩).inRange 64 128 = true ∧
    (Cue.wait (.pairs 65535)).inRange 64 128 = true := by decide +kernel

theorem witness_WholeCuePasses :
    let s := withCue (.wait (.ticks 65535))
    s.regs.bases.cueSize ≤ 1048576 ∧ s.settings.format.height ≤ 4096 ∧
    (Cue.wait (.ticks 65535)).inRange s.regs.bases.cueSize s.settings.format.height = true ∧
    s.reader.buffer = (Cue.wait (.ticks 65535)).bytes ++ [1#8] ∧ prefixFault s.reader.eyePrefix .wait = none ∧
    CueName.fits .wait s.reader.cursor 8 s.regs.bases.cueSize = true ∧
    s.stateFault (.wait (.ticks 65535)) = none ∧ s.holdOf (.wait (.ticks 65535)) = none := by decide +kernel

/-- RUNNING over a window of 4,096 bytes, with bytes valid at a cursor. -/
def atCue (bytes : List Byte) (cursor : Nat) : State :=
  { running with reader := { running.reader with buffer := bytes, cursor := cursor } }

/-- The same behind an eye prefix. -/
def prefixed (bytes : List Byte) : State :=
  { atCue bytes 0 with reader := { (atCue bytes 0).reader with eyePrefix := some .both } }

/-- R140, R142, R147: the faults and stalls of checks 1 to 4 at their boundaries. -/
theorem witness_WholeCuePasses_lengths :
    (atCue [] 0).verdict = .needByte ∧ (atCue [2#8] 0).verdict = .fault .unknownCue ∧
    (prefixed [0x18#8]).verdict = .fault .prefixTwice ∧ (prefixed [0x10#8]).verdict = .fault .prefixMisplaced ∧
    (prefixed [0x01#8]).verdict = .ready .pad ∧ (prefixed [0x21#8]).verdict = .stall ∧
    (atCue [0x22#8] 4092).verdict = .fault .windowEnd ∧ (atCue [0x22#8] 4091).verdict = .stall ∧
    (atCue [0x22#8, 9#8] 4091).verdict = .fault .badValue ∧ (atCue [0x22#8, 1#8] 4091).verdict = .fault .windowEnd ∧
    (atCue [0x22#8, 0#8] 4091).verdict = .stall ∧ (atCue [0x11#8] 4088).verdict = .fault .windowEnd ∧
    (atCue [0x11#8] 4087).verdict = .stall ∧ (atCue [0x10#8] 4089).verdict = .fault .windowEnd ∧
    (atCue [0x10#8] 4088).verdict = .stall ∧ (atCue [0x00#8] 4095).verdict = .ready .park := by decide +kernel

/-- R148, R161: the faults and holds of checks 5 and 6 at their boundaries. -/
theorem witness_WholeCuePasses_fields :
    (atCue (Cue.jump 4095).bytes 0).verdict = .ready (.jump 4095) ∧
    (atCue (Cue.jump 4096).bytes 0).verdict = .fault .jumpRange ∧
    (atCue ([0x10#8, 0#8, 0#8, 1#8] ++ leBytes 4 4096) 0).verdict = .fault .badValue ∧
    (atCue (Cue.format ⟨.sixteen, .rowPaired, 4096, 2048⟩).bytes 0).verdict =
      .ready (.format ⟨.sixteen, .rowPaired, 4096, 2048⟩) ∧
    (atCue (Cue.format ⟨.sixteen, .rowPaired, 4096, 2049⟩).bytes 0).verdict = .fault .formatTooLarge ∧
    (atCue (Cue.format ⟨.sixteen, .rowPaired, 4097, 2049⟩).bytes 0).verdict = .fault .badValue ∧
    (atCue [0x18#8, 3#8] 0).verdict = .fault .badValue ∧ (atCue [0x51#8] 0).verdict = .fault .noTake ∧
    (atCue [0x12#8] 0).verdict = .fault .returnEmpty ∧
    (let s := atCue (Cue.call 0).bytes 0
     State.verdict { s with reader := { s.reader with stack := [1, 2, 3, 4] } } = .fault .callDepth) ∧
    (let s := atCue (Cue.openTake 0#32).bytes 0
     State.verdict { s with matcher := { s.matcher with take := .opened } } = .fault .takeNested ∧
     State.verdict { s with writer := { s.writer with reserved := 8 } } = .hold (.openTake 0#32) .resultRoom) ∧
    (let s := atCue Cue.closeTake.bytes 0
     State.verdict { s with matcher := { s.matcher with take := .closing } } = .fault .takeNested) ∧
    (let s := atCue (Cue.target (targetOf 0)).bytes 0
     State.verdict { s with delivery := { s.delivery with targets := List.replicate 32 (targetOf 0) } } =
      .hold (.target (targetOf 0)) .targetRoom) ∧
    (let s := atCue Cue.recall.bytes 0
     State.verdict { s with writer := { s.writer with reserved := 8 } } = .hold .recall .resultRoom) ∧
    (let s := atCue (Cue.orient .normal).bytes 0
     State.verdict { s with matcher := { s.matcher with take := .opened } } = .hold (.orient .normal) .takeActive) := by
  decide +kernel

/-! ### The part's own events (log 3) -/

/-- RUNNING with no tick timer, so that nothing is due. -/
def still : State := { running with pace := { running.pace with timer := none } }

/-- A record write that is next in turn, with bus mastering off; a target write before it; and ticks owed. -/
theorem witness_EmptyQueueStep_writes_and_ticks :
    (let off : State := { writing [] 16#32 with regs := { running.regs with busMaster := false } }
     off.ownEvent = some (.busError .recordWrite) ∧
     State.ownEvent { off with delivery := (delivering 0 []).delivery } = some (.busError .targetWrite)) ∧
    State.ownEvent { still with right := { placed .rowLock with tickOwed := true } } = some (.silenceExpiry .right) ∧
    State.ownEvent { closing 900001 with left := { placed .rowLock with tickOwed := true } } =
      some (.silenceExpiry .left) ∧
    (closing 900001).ownEvent = some .takeCloseCompletion ∧ (closing 900000).ownEvent = some .partnerWaitExpiry := by
  decide +kernel

/-- The Cue Reader's events, ahead of a measurement; a measurement at 100 µs and not before, and the next one; a
delivery; the end of DRAINING. -/
theorem witness_EmptyQueueStep_blocks :
    State.ownEvent { withCue (.note 5#32) with align := { AlignmentUnit.reset with busy := some measuring } } =
      some .note ∧
    (holding 8).ownEvent = some .openTake ∧
    (readerIn (withCue (.note 5#32)) (.held .resultRoom)).ownEvent = some .holdRelease ∧
    (readerIn (holding 8) (.held .resultRoom)).ownEvent = some .holdRelease ∧
    (readerIn { holding 8 with pace := still.pace } (.held .takeClosing)).ownEvent = none ∧
    (readerIn running (.waiting .lock 0 true)).ownEvent = some .waitEnd ∧
    (readerIn running (.faulted .badValue true)).ownEvent = some .faultRecordPlaced ∧
    (let busy := fun begun : Nat => { still with align := { AlignmentUnit.reset with
       busy := some { measuring with begun := BitVec.ofNat 48 begun } } }
     (busy 999900).ownEvent = some .measurementDone ∧ (busy 999901).ownEvent = none) ∧
    State.ownEvent { withEntry (entry .deliver .measuring) with
      align := { AlignmentUnit.reset with looking := true } } = some .measurementBegin ∧
    State.ownEvent { withEntry (entry .deliver .ready) with
      delivery := { DeliveryEngine.reset with targets := [targetOf 0] } } = some .deliveryStart ∧
    (inRun .draining).ownEvent = some .drainingEndReached ∧ finalInFlight.ownEvent = none ∧
    State.ownEvent { inRun .draining with writer := { ResultWriter.reset with final := .accepted } } =
      some .endOfDraining ∧
    State.ownEvent { inRun .draining with regs := { (inRun .draining).regs with drainedStarting := true } } =
      some .endOfDraining := by decide +kernel

/-- Deadlines, timers and time-outs at their moments, and none a microsecond before. -/
theorem witness_EmptyQueueStep_times :
    still.ownEvent = none ∧
    (pulsed referenced 1060000).ownEvent = some (.lossDeadlineExpiry []) ∧ (pulsed referenced 1059999).ownEvent = none ∧
    (let at_ := fun now : Nat => { State.reset with pace := { PaceGenerator.reset with stamp := BitVec.ofNat 48 now } }
     (at_ 41667).ownEvent = some (.tickTimerExpiry []) ∧ (at_ 41666).ownEvent = none) ∧
    (let g := fun n : Nat => { PaceGenerator.reset with state := .holdover, stamp := 41667#48, holdoverCount := n }
     State.ownEvent { State.reset with pace := g 239 } = some (.holdoverLimitReached []) ∧
     State.ownEvent { State.reset with pace := g 238 } = some (.tickTimerExpiry [])) ∧
    (let message := fun start : Nat => { still with rig := { SamplePort.reset with
       reception := .collecting (BitVec.ofNat 48 start) [0x7E#8] } }
     (message 998000).ownEvent = some (.messageDeadlineExpiry .rig) ∧ (message 998001).ownEvent = none) ∧
    (let read := fun issued : Nat => { still with reader := { still.reader with
       fetch := some ⟨0, 0, 0x100000#64, BitVec.ofNat 48 issued, false⟩ } }
     (read 950000).ownEvent = some (.readTimeout .cueFetch) ∧ (read 950001).ownEvent = none) := by decide +kernel

/-! ### Witnesses for the invariants: a state that is sound, with a step that answers a next state -/

/-- A frame being filled at the LEFT is the one claimed slot, and its receiver owns it. -/
theorem witness_slots : (atRow 1).slotsSound := by
  have slots : (atRow 1).store.slots = .filling (frameOf .left 900000) :: List.replicate 23 .free := by decide +kernel
  have other : ∀ n, 1 ≤ n → (atRow 1).store.slot n = .free := by
    intro n positive
    unfold FrameStore.slot
    rw [slots]
    obtain ⟨m, rfl⟩ : ∃ m, n = m + 1 := ⟨n - 1, by omega⟩
    rw [List.getD_cons_succ]
    by_cases small : m < 23
    · exact List.getD_replicate _ small
    · exact List.getD_eq_default _ _ (by simp; omega)
  have zero : (atRow 1).store.slot 0 = .filling (frameOf .left 900000) := by decide +kernel
  have cases_of : ∀ n, n = 0 ∨ 1 ≤ n := fun n => by omega
  constructor
  · intro e n h; cases e <;> exact absurd h List.not_mem_nil
  · intro e; cases e <;> decide
  · intro n f h
    rcases cases_of n with rfl | h1
    · simp only [zero] at h; cases h
    · simp only [other n h1] at h; cases h
  · intro e f h
    cases e
    · refine ⟨rfl, frameOf .left 900000, ?_, rfl⟩
      cases h; exact zero
    · cases h
  · intro n x h
    rcases cases_of n with rfl | h1
    · simp only [zero] at h; cases h; exact ⟨_, rfl, rfl⟩
    · simp only [other n h1] at h; cases h
  · intro n
    constructor
    · intro h; cases h
    · intro h
      rcases cases_of n with rfl | h1
      · simp only [zero] at h; cases h
      · simp only [other n h1] at h; cases h
  · exact List.nodup_nil

/-- A row on its way to a frame being filled, a deadline past, and a cue at the cursor. -/
def busy : State :=
  { atRow 1 with pending := [.rowPosition .left (markOf 7) (leBytes 2 0x0201 ++ List.replicate 320 0#8)] }

theorem witness_StepKeeps_step : (∃ t, step busy = .next t ∧ t.pending = [] ∧ t.store.mem ≠ []) :=
  ⟨_, rfl, by decide +kernel⟩

theorem witness_StepKeeps_sound :
    Memory.wf busy.store.mem = true ∧ busy.placesSound ∧ busy.roomSound ∧ busy.bufferSound ∧ busy.poolSound ∧
    busy.settingsSound ∧ busy.paceSound := by
  refine ⟨by decide +kernel, ?_, ?_, ?_, ?_, ?_, ?_⟩
  · unfold State.placesSound; decide +kernel
  · unfold State.roomSound; decide +kernel
  · unfold State.bufferSound; decide +kernel
  · unfold State.poolSound; decide +kernel
  · unfold State.settingsSound; decide +kernel
  · exact ⟨⟨rfl, rfl, by decide⟩, by decide, by decide⟩

theorem witness_StepKeeps_slots : busy.slotsSound := { witness_slots with }

theorem witness_StepKeeps_tracker : busy.trackerSound := by
  have none_busy : busy.align.busy = none := rfl
  have none_candidate : busy.align.candidate = none := rfl
  have no_entry : busy.matcher.table = [] := rfl
  refine ⟨by unfold offsetSound; decide, ?_, ?_, ?_⟩
  · simp [none_candidate]
  · simp [none_busy]
  · simp [no_entry]

theorem witness_StepKeepsIdle :
    let s : State := { State.reset with pending := [.start] }
    s.regs.run = .idle ∧ s.idleSound ∧ (∃ t, step s = .next t ∧ t.regs.run = .halted) := by
  refine ⟨rfl, ?_, ⟨_, rfl, by decide⟩⟩
  unfold State.idleSound State.atRest Receiver.atRest
  decide +kernel

end Sys2Proof.Tests
end

section
/-! SUPPORT. What one act of a disposal pass, or a close check, can be: a fact about a pass is one about these. -/

namespace Sys2Proof.Machine

/-- What an act of a disposal pass makes of a state: a pair formed, an orphan entered, or an orphan released. -/
inductive State.Act (s : State) : State → Prop where
  | pair (l r : Nat × FrameRecord) (left : s.head .left = some l) (right : s.head .right = some r)
      (room : s.matcher.hasRoom = true) : Act s (s.formPair l r)
  | orphan (e : Eye) (x : Nat × FrameRecord) (head : s.head e = some x) (room : s.matcher.hasRoom = true) :
      Act s (s.formOrphan e x)
  | release (e : Eye) (x : Nat × FrameRecord) (head : s.head e = some x) : Act s (s.releaseOrphan e x)

/-- The disposal of an orphan head is an act. -/
theorem State.disposeOrphan_act {s t : State} {e : Eye} {x : Nat × FrameRecord} (head : s.head e = some x)
    (ht : s.disposeOrphan e x = some t) : s.Act t := by
  unfold State.disposeOrphan at ht
  split at ht
  · split at ht
    · next room => cases ht; exact .orphan e x head room
    · cases ht
  · cases ht; exact .release e x head

/-- The comparison of two heads is an act. -/
theorem State.compareHeads_act {s t : State} {l r : Nat × FrameRecord} (left : s.head .left = some l)
    (right : s.head .right = some r) (ht : s.compareHeads l r = some t) : s.Act t := by
  unfold State.compareHeads at ht
  dsimp only at ht
  split at ht
  · exact State.disposeOrphan_act left ht
  · split at ht
    · exact State.disposeOrphan_act right ht
    · split at ht
      · next room => cases ht; exact .pair l r left right room
      · cases ht

/-- A lone head disposed of is an act. -/
theorem State.loneHead_act {s t : State} {e : Eye} {x : Nat × FrameRecord} (head : s.head e = some x)
    (ht : s.loneHead e x = some t) : s.Act t := by
  unfold State.loneHead at ht
  split at ht
  · cases ht
  · exact State.disposeOrphan_act head ht

/-- An examination that goes on makes an act. -/
theorem State.examine_act {s t : State} (ht : s.examine = some t) : s.Act t := by
  unfold State.examine at ht
  split at ht
  · cases ht
  · next l r left right =>
    unfold State.bothHeads at ht
    split at ht
    · exact State.disposeOrphan_act left ht
    · split at ht
      · exact State.disposeOrphan_act right ht
      · exact State.compareHeads_act left right ht
  · next left _ => exact State.loneHead_act left ht
  · next _ right => exact State.loneHead_act right ht

/-- What every act and every close check keeps, a disposal pass keeps. -/
theorem State.pass_induction {P : State → Prop} (act : ∀ s t : State, P s → s.Act t → P t)
    (check : ∀ s : State, P s → P s.closeCheck) {s : State} (h : P s) : P s.pass := by
  have steps : ∀ (n : Nat) (s : State), P s → P (State.passSteps n s) := fun n => by
    induction n with
    | zero => exact fun _ h => h
    | succ n ih =>
      intro s h
      unfold State.passSteps
      split
      · exact h
      · next u hu => exact ih _ (check _ (act s u h (State.examine_act hu)))
  unfold State.pass
  split
  · exact h
  · exact steps _ _ h

/-- A close check changes nothing, or completes the close: a take CLOSING, no delivery in flight, and room for the
record (R75). -/
theorem State.closeCheck_cases (s : State) : s.closeCheck = s ∨
    (s.matcher.take = .closing ∧ s.writer.canReserve = true ∧ s.closeCheck = s.completeClose) := by
  unfold State.closeCheck
  split
  · next h =>
    obtain ⟨-, closing, closable⟩ := h
    simp only [State.closable, Bool.and_eq_true] at closable
    exact .inr ⟨closing, closable.2, rfl⟩
  · exact .inl rfl

end Sys2Proof.Machine
end

section
/-! SUPPORT. The room of the collections (R6, R61, R85, R110, R123, R124, R136, R137, R145), kept by every operation
of every block and so by every command. The proofs are elaborated one after another, as the tests
are: many at once need a stack each. -/

namespace Sys2Proof.Machine

set_option Elab.async false

/-- Every collection keeps its room: the bounds of the statements, one field for each. -/
structure State.Bounded (s : State) : Prop where
  places : s.writer.held.length + s.writer.reserved ≤ 8
  reserved : s.writer.reserved = if s.delivery.copy.isSome then 1 else 0
  table : s.matcher.table.length ≤ 6
  targets : s.delivery.targets.length ≤ 32
  stack : s.reader.stack.length ≤ 4
  leftLens : s.leftLens.stack.length ≤ 4
  rightLens : s.rightLens.stack.length ≤ 4
  rig : s.rig.stack.length ≤ 4
  left : s.left.history.length ≤ 8
  right : s.right.history.length ≤ 8
  buffer : s.reader.buffer.length ≤ 32
  fetch : s.reader.fetch.isSome → s.reader.buffer.length ≤ 24

/-- The bounds are those of the statements. -/
theorem State.bounded_iff (s : State) : s.Bounded ↔ s.placesSound ∧ s.roomSound ∧ s.bufferSound := by
  constructor
  · intro h
    exact ⟨⟨h.places, h.reserved⟩, ⟨h.table, h.targets, h.stack, h.leftLens, h.rightLens, h.rig, h.left, h.right⟩,
      ⟨h.buffer, h.fetch⟩⟩
  · rintro ⟨⟨places, reserved⟩, ⟨table, targets, stack, leftLens, rightLens, rig, left, right⟩, buffer, fetch⟩
    exact { places, reserved, table, targets, stack, leftLens, rightLens, rig, left, right, buffer, fetch }

namespace State.Bounded
variable {s t : State}

/-- The bounds read the collections alone. -/
theorem congr (h : s.Bounded) (held : t.writer.held = s.writer.held := by simp)
    (reserved : t.writer.reserved = s.writer.reserved := by simp) (delivery : t.delivery = s.delivery := by simp)
    (table : t.matcher.table = s.matcher.table := by simp) (reader : t.reader = s.reader := by simp)
    (leftLens : t.leftLens = s.leftLens := by simp) (rightLens : t.rightLens = s.rightLens := by simp)
    (rig : t.rig = s.rig := by simp) (left : t.left = s.left := by simp) (right : t.right = s.right := by simp) :
    t.Bounded where
  places := by rw [held, reserved]; exact h.places
  reserved := by rw [reserved, delivery]; exact h.reserved
  table := table ▸ h.table
  targets := delivery ▸ h.targets
  stack := reader ▸ h.stack
  leftLens := leftLens ▸ h.leftLens
  rightLens := rightLens ▸ h.rightLens
  rig := rig ▸ h.rig
  left := left ▸ h.left
  right := right ▸ h.right
  buffer := reader ▸ h.buffer
  fetch := reader ▸ h.fetch

/-! ### The updates of the blocks -/

theorem onReceiver (h : s.Bounded) (e : Eye) {f : Receiver → Receiver}
    (keeps : ∀ r : Receiver, r.history.length ≤ 8 → (f r).history.length ≤ 8 := by exact fun _ k => k) :
    (s.onReceiver e f).Bounded := by
  cases e
  · exact { h with left := keeps _ h.left }
  · exact { h with right := keeps _ h.right }

theorem onPort (h : s.Bounded) (p : PortId) {f : SamplePort → SamplePort}
    (keeps : ∀ x : SamplePort, x.stack.length ≤ 4 → (f x).stack.length ≤ 4 := by exact fun _ k => k) :
    (s.onPort p f).Bounded := by
  cases p
  · exact { h with leftLens := keeps _ h.leftLens }
  · exact { h with rightLens := keeps _ h.rightLens }
  · exact { h with rig := keeps _ h.rig }

theorem onSettings (h : s.Bounded) (f) : (s.onSettings f).Bounded := { h with }
theorem onRegs (h : s.Bounded) (f) : (s.onRegs f).Bounded := { h with }
theorem onStore (h : s.Bounded) (f) : (s.onStore f).Bounded := { h with }
theorem onPace (h : s.Bounded) (f) : (s.onPace f).Bounded := { h with }
theorem onAlign (h : s.Bounded) (f) : (s.onAlign f).Bounded := { h with }
theorem carry (h : s.Bounded) (b) : (s.carry b).Bounded := { h with }
theorem setIrq (h : s.Bounded) (c e) : (s.setIrq c e).Bounded := h.congr
theorem setCause (h : s.Bounded) (c) : (s.setCause c).Bounded := h.congr

theorem onMatcher (h : s.Bounded) {f : PairMatcher → PairMatcher}
    (table : (f s.matcher).table.length ≤ s.matcher.table.length := by exact le_rfl) : (s.onMatcher f).Bounded :=
  { h with table := table.trans h.table }

/-- A change of the reader that leaves its stack, and its buffer and the fetch in flight. -/
theorem onReader (h : s.Bounded) {f : CueReader → CueReader} (stack : (f s.reader).stack = s.reader.stack := by rfl)
    (buffer : (f s.reader).buffer = s.reader.buffer := by rfl) (fetch : (f s.reader).fetch = s.reader.fetch := by rfl) :
    (s.onReader f).Bounded :=
  { h with
    stack := by rw [State.onReader_reader, stack]; exact h.stack
    buffer := by rw [State.onReader_reader, buffer]; exact h.buffer
    fetch := by rw [State.onReader_reader, buffer, fetch]; exact h.fetch }

/-- A change of the writer that leaves its records and reservations. -/
theorem onWriter (h : s.Bounded) {f : ResultWriter → ResultWriter} (held : (f s.writer).held = s.writer.held := by rfl)
    (reserved : (f s.writer).reserved = s.writer.reserved := by rfl) : (s.onWriter f).Bounded :=
  h.congr held reserved

/-! ### The Result Writer -/

theorem judgeHead (h : s.Bounded) : s.judgeHead.Bounded := h.congr s.judgeHead_held s.judgeHead_reserved

/-- A record is placed where a place can be reserved. -/
theorem place (h : s.Bounded) (r : ResultRecord) (room : s.writer.canReserve = true) : (s.place r).Bounded := by
  have joined : (s.onWriter fun w => { w with held := w.held ++ [r] }).Bounded := { h with
    places := by
      simp only [ResultWriter.canReserve, Config.pendingPlaces, decide_eq_true_eq] at room
      simp only [State.onWriter_writer, List.length_append, List.length_singleton]
      omega }
  exact joined.congr (s.place_held r) (s.place_reserved r)

theorem issueConsumed (h : s.Bounded) : s.issueConsumed.Bounded := by
  unfold State.issueConsumed
  refine h.onWriter ?_ ?_ <;> split <;> rfl

theorem issueStatus (h : s.Bounded) (final) : (s.issueStatus final).Bounded := by
  unfold State.issueStatus
  exact h.onWriter

theorem statusOrSkip (h : s.Bounded) : s.statusOrSkip.Bounded := by
  unfold State.statusOrSkip
  split
  · exact h.onWriter
  · split
    · exact h
    · exact h.issueStatus false

/-! ### The Pair Matcher -/

theorem completeClose (h : s.Bounded) (room : s.writer.canReserve = true) : s.completeClose.Bounded := by
  unfold State.completeClose CueReader.reportClosed
  refine ((h.place _ room).onMatcher).onReader ?_ ?_ ?_ <;> split <;> rfl

theorem closeCheck (h : s.Bounded) : s.closeCheck.Bounded := by
  obtain same | ⟨-, room, closed⟩ := s.closeCheck_cases
  · rw [same]; exact h
  · rw [closed]; exact h.completeClose room

theorem updateSkew (h : s.Bounded) (d) : (s.updateSkew d).Bounded := by
  unfold State.updateSkew
  dsimp only
  split
  · exact (h.onMatcher).setCause _
  · exact h.onMatcher

/-- An entry that finds room joins the table. -/
theorem join_length {m : PairMatcher} (room : m.hasRoom = true) (x : Entry) : (m.join x).table.length ≤ 6 := by
  simp only [PairMatcher.hasRoom, Config.pairTableRoom, decide_eq_true_eq] at room
  simp only [PairMatcher.join, List.length_append, List.length_singleton]
  omega

@[simp] theorem setMark_table (m : PairMatcher) (e : Eye) (w : WaitMark) : (m.setMark e w).table = m.table := by
  cases e <;> rfl

theorem act (h : s.Bounded) (a : s.Act t) : t.Bounded := by
  cases a with
  | pair l r _ _ room =>
    refine State.Bounded.updateSkew (State.Bounded.onAlign ?_ _) _
    exact { h with table := join_length room (s.pairEntry l r) }
  | orphan e x _ room =>
    exact { h with table := (setMark_table _ _ _).symm ▸ join_length room (s.orphanEntry e x) }
  | release e x => exact (h.onStore _).onMatcher (by simp)

theorem pass (h : s.Bounded) : s.pass.Bounded :=
  State.pass_induction (fun _ _ h a => h.act a) (fun _ h => h.closeCheck) h

theorem dispose (h : s.Bounded) : s.dispose.Bounded := h.pass.closeCheck

theorem takeTick (h : s.Bounded) : s.takeTick.Bounded := by
  unfold State.takeTick State.advanceWaits
  exact (h.onMatcher).dispose

theorem takeOwedTick (h : s.Bounded) : s.takeOwedTick.Bounded := by
  unfold State.takeOwedTick
  split
  · exact (h.onMatcher).takeTick
  · exact h

/-! ### The Link Receivers -/

theorem cutFilling (h : s.Bounded) (e) : (s.cutFilling e).Bounded := by
  unfold State.cutFilling
  split
  · exact h
  · exact ((h.onStore _).onReceiver e).closeCheck

theorem changeSync (h : s.Bounded) (e) {g : Receiver → Receiver}
    (keeps : ∀ r : Receiver, r.history.length ≤ 8 → (g r).history.length ≤ 8 := by exact fun _ k => k) :
    (s.changeSync e g).Bounded := by
  unfold State.changeSync State.tellLeft
  split
  · refine (State.Bounded.onMatcher (((h.cutFilling e).onReceiver e keeps).setCause _) ?_).pass
    unfold PairMatcher.leftLock
    split <;> exact le_rfl
  · exact h.onReceiver e keeps

/-- A history that is emptied keeps its room, whatever it held. -/
theorem emptied {g : Receiver → Receiver} (empty : ∀ r, (g r).history = [] := by exact fun _ => rfl) (r : Receiver)
    (_ : r.history.length ≤ 8) : (g r).history.length ≤ 8 := by simp [empty r]

/-- A judgment recorded keeps the room of the history. -/
theorem pushed {g : Receiver → Receiver} (good : Receiver → Bool)
    (push : ∀ r, (g r).history = pushHistory (good r) r.history := by exact fun _ => rfl) (r : Receiver)
    (_ : r.history.length ≤ 8) : (g r).history.length ≤ 8 := by
  rw [push r]
  exact List.length_take_le 8 _

theorem enterFrameLock (h : s.Bounded) (e) : (s.enterFrameLock e).Bounded := by
  unfold State.enterFrameLock CueReader.reportLock
  refine (((h.onReceiver e).setCause _).pass).onReader ?_ ?_ ?_ <;> split <;> rfl

theorem fillRow (h : s.Bounded) (e f good body) : (s.fillRow e f good body).Bounded := by
  unfold State.fillRow
  dsimp only
  split
  · exact ((h.onReceiver e).onStore _).onReceiver e
  · exact h.onReceiver e

theorem lockedRow (h : s.Bounded) (e length mark body) : (s.lockedRow e length mark body).Bounded := by
  have placed : (s.onReceiver e fun r => r.placeRow ((s.receiver e).judge mark) length).Bounded :=
    h.onReceiver e (pushed fun _ => (s.receiver e).judge mark)
  unfold State.lockedRow
  dsimp only
  split
  · exact h.changeSync e emptied
  · split
    · exact placed
    · exact placed.fillRow e _ _ _

/-- A row position of VERIFY records its judgment, or empties the history. -/
theorem verifyRow_history (r : Receiver) (length : Nat) (mark : BitVec 64) :
    (r.verifyRow length mark).history.length ≤ 8 := by
  unfold Receiver.verifyRow Receiver.furtherMark
  split
  · dsimp only
    split <;> exact List.length_take_le 8 _
  · exact Nat.zero_le 8

theorem verify_history (r : Receiver) (position : Nat) (mark : BitVec 64) (h : r.history.length ≤ 8) :
    (r.verify position mark).history.length ≤ 8 := by
  unfold Receiver.verify Receiver.scanMark
  split
  · split
    · exact h
    · split
      · exact Nat.zero_le 8
      · split
        · exact h
        · split
          · exact List.length_take_le 8 _
          · exact Nat.zero_le 8
  · split
    · exact verifyRow_history r _ mark
    · exact h

theorem rowAtPosition (h : s.Bounded) (e mark body) : (s.rowAtPosition e mark body).Bounded := by
  unfold State.rowAtPosition
  split
  · exact h
  · split
    · unfold State.takeRow
      split
      · exact h.onReceiver e fun r _ => verifyRow_history r _ mark
      · exact h.lockedRow e _ mark body
      · exact h.lockedRow e _ mark body
      · exact h
      · exact h
    · exact h

theorem completeIfFilling (h : s.Bounded) (e tail) : (s.completeIfFilling e tail).Bounded := by
  unfold State.completeIfFilling State.completeFrame
  split
  · exact h
  · split
    · exact ((h.onStore _).onReceiver e).dispose
    · exact h.onReceiver e

theorem arrival (h : s.Bounded) (e head) : (s.arrival e head).Bounded := by
  unfold State.arrival State.claim State.slip State.beginFill
  dsimp only
  split
  · split
    · exact ((h.onReceiver e).onReceiver e).setCause _
    · exact (((h.onReceiver e).onStore _).onReceiver e).closeCheck
  · exact (h.onReceiver e).onReceiver e

theorem takeHead (h : s.Bounded) (e head) : (s.takeHead e head).Bounded := by
  have passed : (s.onReceiver e fun r => r.passBoundary 24).Bounded := h.onReceiver e
  unfold State.takeHead State.headInRowLock State.headInFrameLock
  dsimp only
  split
  · split
    · exact (passed.enterFrameLock e).arrival e head
    · exact passed.onReceiver e
  · split
    · exact ((passed.onReceiver e).completeIfFilling e none).arrival e head
    · exact (passed.onReceiver e).changeSync e
  all_goals exact passed

theorem takeTail (h : s.Bounded) (e tail) : (s.takeTail e tail).Bounded := by
  have passed : (s.onReceiver e fun r => r.passBoundary 16).Bounded := h.onReceiver e
  unfold State.takeTail
  dsimp only
  split
  · exact passed.completeIfFilling e _
  · exact passed

/-- In OFF a link command discards its bytes, and elsewhere it has its effect (R3). -/
theorem unlessOff (h : s.Bounded) (effect : t.Bounded) (e : Eye) {discarded : Receiver → Receiver}
    (keeps : ∀ r : Receiver, r.history.length ≤ 8 → (discarded r).history.length ≤ 8 := by exact fun _ k => k) :
    (s.unlessOff e discarded t).Bounded := by
  unfold State.unlessOff
  split
  · exact h.onReceiver e keeps
  · exact effect

theorem takeSilenceTick (h : s.Bounded) (e) : (s.takeSilenceTick e).Bounded := by
  unfold State.takeSilenceTick
  dsimp only
  split
  · split
    · exact h.onReceiver e
    · exact h.changeSync e
  · split
    · exact h.onReceiver e
    · exact h.changeSync e emptied
  all_goals exact h

theorem takeOwedSilence (h : s.Bounded) (e) : (s.takeOwedSilence e).Bounded := by
  unfold State.takeOwedSilence
  split
  · exact (h.onReceiver e).takeSilenceTick e
  · exact h

theorem linkOff (h : s.Bounded) (e) : (s.linkOff e).Bounded := by
  unfold State.linkOff
  split
  · exact h
  · exact h.changeSync e emptied

theorem linkOn (h : s.Bounded) (e) : (s.linkOn e).Bounded := by
  unfold State.linkOn
  split
  · exact h.onReceiver e emptied
  · exact h

/-! ### The Sample Ports and the Alignment Unit -/

/-- A message judged pushes a sample onto a stack that has room, or in place of the oldest (R85). -/
theorem judge_stack (p : SamplePort) (port : PortId) (now : Stamp) (bs : List Byte) (h : p.stack.length ≤ 4) :
    (p.judge port now bs).stack.length ≤ 4 := by
  unfold SamplePort.judge SamplePort.push
  split
  · split <;> simp only [Config.stackRoom, List.length_append, List.length_tail, List.length_singleton] at * <;> omega
  · exact h

theorem take_stack (port : PortId) (now : Stamp) (c : Byte) (framing : Bool) (p : SamplePort)
    (h : p.stack.length ≤ 4) : (p.take port now c framing).stack.length ≤ 4 := by
  unfold SamplePort.take SamplePort.begin SamplePort.collect
  split
  · split <;> exact h
  · split
    · exact h
    · split
      · exact h
      · exact judge_stack { p with reception := .awaiting } port now _ h

theorem takeCharacter (h : s.Bounded) (port c framing) : (s.takeCharacter port c framing).Bounded := by
  unfold State.takeCharacter
  split
  · exact h.onPort port (take_stack port s.now c framing)
  · exact h

theorem ageSamples (h : s.Bounded) (port) : (s.ageSamples port).Bounded :=
  h.onPort port fun _ k => (List.length_filter_le _ _).trans k

theorem dropPartials (h : s.Bounded) : s.dropPartials.Bounded :=
  ((h.onPort .leftLens).onPort .rightLens).onPort .rig

theorem measurementDone (h : s.Bounded) (m) : (s.measurementDone m).Bounded := by
  unfold State.measurementDone State.finishEntry State.removeIdle
  dsimp only
  split
  · exact h.onAlign _
  · split
    · exact (h.onAlign _).onMatcher (by simp [PairMatcher.onMeasuring])
    · exact (((h.onAlign _).onMatcher List.length_erase_le).onStore _).dispose

/-! ### The Delivery Engine -/

/-- What leaves the head of a list makes room. -/
theorem tail_room {α : Type} {l : List α} {n : Nat} (h : l.length ≤ n) : l.tail.length ≤ n := by
  rw [List.length_tail]; omega

theorem startDelivery (h : s.Bounded) (can : s.canDeliver = true) (target entry) :
    (s.startDelivery target entry).Bounded := by
  simp only [State.canDeliver, Bool.and_eq_true, Option.isNone_iff_eq_none] at can
  obtain ⟨⟨idle, room⟩, -⟩ := can
  unfold State.startDelivery
  split
  · refine State.Bounded.place ?_ _ room
    exact { h with targets := tail_room h.targets }
  · have free := h.reserved
    simp only [ResultWriter.canReserve, Config.pendingPlaces, decide_eq_true_eq] at room
    simp only [idle, Option.isSome_none, Bool.false_eq_true, if_false] at free
    exact { h with
      places := by
        simp only [State.beginCopy, State.onMatcher_writer, State.onDelivery_writer, State.onWriter_writer]
        omega
      reserved := by simp [State.beginCopy, free]
      table := by
        simp only [State.beginCopy, State.onMatcher_matcher, State.onDelivery_matcher, State.onWriter_matcher,
          PairMatcher.deliverHead]
        have := h.table
        split <;> simp_all
      targets := tail_room h.targets }

theorem completed_copy (d : DeliveryEngine) (k : EntryKind) : (d.completed k).copy = none := by
  unfold DeliveryEngine.completed; split <;> rfl

theorem completed_targets (d : DeliveryEngine) (k : EntryKind) : (d.completed k).targets = d.targets := by
  unfold DeliveryEngine.completed; split <;> rfl

/-- The record of a delivery takes the place reserved for it (R121, R124). -/
theorem completeCopy (h : s.Bounded) (c entry) (copying : s.delivery.copy = some c) :
    (s.completeCopy c entry).Bounded := by
  have one : s.writer.reserved = 1 := by simpa [copying] using h.reserved
  have places := h.places
  have recorded : State.Bounded { s with
      writer := { s.writer with
        held := s.writer.held ++ [.delivery (s.deliveryRecord c entry)], reserved := s.writer.reserved - 1 }
      matcher := s.matcher.delivered entry
      delivery := s.delivery.completed entry.kind } := { h with
    places := by simp only [List.length_append, List.length_singleton]; omega
    reserved := by simp [completed_copy, one]
    table := List.length_erase_le.trans h.table
    targets := completed_targets s.delivery _ ▸ h.targets }
  unfold State.completeCopy State.placeReserved State.carryAll
  refine State.Bounded.onReader (State.Bounded.dispose (recorded.congr ?_ ?_)) ?_ ?_ ?_
  · simp [State.place_held]
  · simp [State.place_reserved]
  all_goals unfold CueReader.reportPair; split <;> rfl

theorem acceptRows (h : s.Bounded) (c entry n) (copying : s.delivery.copy = some c) :
    (s.acceptRows c entry n).Bounded :=
  { h with reserved := by simpa [copying, State.acceptRows_eq] using h.reserved }

/-! ### The Result Writer's accesses and status writes -/

theorem lacksRoom (h : s.Bounded) : s.lacksRoom.Bounded := by
  unfold State.lacksRoom
  split
  · exact (h.onWriter).setCause _
  · exact h

theorem judgeAgain (h : s.Bounded) : s.judgeAgain.Bounded := by
  unfold State.judgeAgain State.issueRecord
  split
  · exact h
  · split
    · exact h.onWriter
    · exact h.lacksRoom

/-- An accepted record write frees the place of the head (R129). -/
theorem written (h : s.Bounded) : (s.onWriter ResultWriter.written).Bounded :=
  { h with places := (Nat.add_le_add_right (tail_room le_rfl) _).trans h.places }

theorem writerTick (h : s.Bounded) : s.writerTick.Bounded := by
  unfold State.writerTick
  split
  · exact h.issueConsumed
  · exact h

theorem statusTick (h : s.Bounded) : s.statusTick.Bounded := by
  unfold State.statusTick
  split
  · exact h.statusOrSkip
  · exact h

theorem statusAccepted (h : s.Bounded) (w) : (s.statusAccepted w).Bounded := (h.carry _).onWriter

/-! ### Pace ticks and the Pace Generator -/

theorem matcherTick (h : s.Bounded) : s.matcherTick.Bounded := by
  unfold State.matcherTick
  split
  · exact h
  · exact h.takeOwedTick.takeTick

theorem matcherTickLater (h : s.Bounded) : s.matcherTickLater.Bounded := by
  unfold State.matcherTickLater State.oweMatcherTick
  split
  · exact h
  · split
    · exact h.takeOwedTick.onMatcher
    · exact h.takeOwedTick.takeTick

/-- A re-look flushes the buffer, which has room for the fetch it issues (R139, R154). -/
theorem readerTick (h : s.Bounded) : s.readerTick.Bounded := by
  unfold State.readerTick CueReader.reportTick
  split
  · split
    · exact { h with buffer := Nat.zero_le 32, fetch := fun _ => Nat.zero_le 24 }
    · exact h
  · refine h.onReader ?_ ?_ ?_ <;> split <;> rfl

theorem observe (h : s.Bounded) (o : TickObserver) : (s.observe o).Bounded := by
  cases o with
  | linkReceiver e => exact (h.takeOwedSilence e).takeSilenceTick e
  | samplePort p => exact h.ageSamples p
  | pairMatcher => exact h.matcherTick
  | cueReader => exact h.readerTick
  | resultWriter => exact h.writerTick.statusTick

theorem observeLater (h : s.Bounded) (o : TickObserver) : (s.observeLater o).Bounded := by
  cases o with
  | linkReceiver e =>
    unfold State.observeLater State.linkTickLater
    dsimp only
    split
    · exact (h.takeOwedSilence e).onReceiver e
    · exact (h.takeOwedSilence e).takeSilenceTick e
  | pairMatcher => exact h.matcherTickLater
  | samplePort p => exact h.observe (.samplePort p)
  | cueReader => exact h.observe .cueReader
  | resultWriter => exact h.observe .resultWriter

theorem tick (h : s.Bounded) (order : List TickObserver) : (s.tick order).Bounded :=
  List.foldlRecOn _ _ (List.foldlRecOn _ _ h fun _ h o _ => h.observe o) fun _ h o _ => h.observeLater o

theorem enterHoldover (h : s.Bounded) (base order) : (s.enterHoldover base order).Bounded := by
  unfold State.enterHoldover
  dsimp only
  split
  · split
    · exact ((((h.onPace _).onPace _).setCause _).tick order).setCause _
    · exact (((h.onPace _).onPace _).tick order).setCause _
  · exact ((h.onPace _).onPace _).setCause _

theorem seekLock (h : s.Bounded) (i order) : (s.seekLock i order).Bounded := by
  unfold State.seekLock State.completeLock
  dsimp only
  split
  · exact (((h.onPace _).onPace _).tick order).setCause _
  · exact h.onPace _

theorem takePulse (h : s.Bounded) (order) : (s.takePulse order).Bounded := by
  have noted : (s.onPace fun g => { g with previousPulse := some s.now }).Bounded := h.onPace _
  unfold State.takePulse
  dsimp only
  split
  · exact noted
  · unfold State.judgedPulse
    split
    · split
      · exact ((noted.onPace _).onPace _).tick order
      · exact (noted.onPace _).enterHoldover _ order
    all_goals exact (noted.onPace _).seekLock _ order

theorem timerTick (h : s.Bounded) (timer order) : (s.timerTick timer order).Bounded := by
  unfold State.timerTick
  dsimp only
  split
  · exact ((h.onPace _).setCause _).tick order
  · exact (h.onPace _).tick order

/-! ### The Cue Reader -/

/-- A fetch is issued where its bytes find room (R137). -/
theorem tryFetch (h : s.Bounded) : s.tryFetch.Bounded := by
  unfold State.tryFetch
  split
  · next can =>
    simp only [State.canFetch, Bool.and_eq_true, decide_eq_true_eq, Config.fetchLimit] at can
    obtain ⟨⟨⟨room, -⟩, -⟩, -⟩ := can
    exact { h with fetch := fun _ => room }
  · exact h

theorem setReader (h : s.Bounded) (x) : (s.setReader x).Bounded := h.onReader

theorem faultReader (h : s.Bounded) (code) : (s.faultReader code).Bounded := by
  have faulted : ((s.onReader fun r => { r with state := .faulted code (!s.writer.canReserve) }).setCause
      .cueFault).Bounded := (h.onReader).setCause _
  unfold State.faultReader
  dsimp only
  split
  · next room => exact faulted.place _ (by simpa using room)
  · exact faulted

theorem settle (h : s.Bounded) : s.settle.Bounded := by
  unfold State.settle
  split
  · split
    · exact h.setReader _
    · exact h.faultReader _
    all_goals exact h.setReader _
  · split
    · exact h.setReader _
    · exact h.faultReader _
    all_goals exact h.setReader _
  · exact h

theorem resume (h : s.Bounded) : s.resume.Bounded := h.tryFetch.settle


/-- A change of the reader that at most shortens its buffer. -/
theorem shorten (h : s.Bounded) {f : CueReader → CueReader} (stack : (f s.reader).stack = s.reader.stack)
    (buffer : (f s.reader).buffer.length ≤ s.reader.buffer.length) (fetch : (f s.reader).fetch = s.reader.fetch) :
    (s.onReader f).Bounded :=
  { h with
    stack := by rw [State.onReader_reader, stack]; exact h.stack
    buffer := buffer.trans h.buffer
    fetch := by rw [State.onReader_reader, fetch]; exact fun f => buffer.trans (h.fetch f) }

theorem advancePast (h : s.Bounded) (n) : (s.advancePast n).Bounded :=
  (h.shorten rfl (List.length_drop ▸ Nat.sub_le _ _) rfl).resume

/-- A cue that moves the cursor flushes the buffer (R139). -/
theorem jumpTo (h : s.Bounded) (cursor) : (s.jumpTo cursor).Bounded := (h.shorten rfl (Nat.zero_le _) rfl).resume

/-- The bytes of a returned word find room: its fetch was in flight (R137, R138). -/
theorem fetchReturned (h : s.Bounded) (f word) (inFlight : s.reader.fetch = some f) :
    (s.fetchReturned f word).Bounded := by
  have room : s.reader.buffer.length ≤ 24 := h.fetch (by rw [inFlight]; rfl)
  have returned : (s.onReader fun r => { r with fetch := none }).Bounded := { h with fetch := fun f => nomatch f }
  have placed : ((s.onReader fun r => { r with fetch := none }).onReader fun r => r.placeWord word).Bounded :=
    { returned with
      buffer := by
        have bytes : (leBytes 8 word.toNat).length = 8 := rfl
        simp only [State.onReader_reader, CueReader.placeWord, List.length_append, List.length_drop, bytes]
        omega
      fetch := fun f => nomatch f }
  unfold State.fetchReturned
  dsimp only
  split
  · exact returned
  · split
    · unfold State.afterWord
      split
      · split
        · exact (placed.setReader _).resume
        · exact placed
      · exact placed.resume
    · exact returned.tryFetch

/-! ### The cues -/

theorem flush (h : s.Bounded) (counted) : (s.flush counted).Bounded := by
  unfold State.flush
  exact State.Bounded.onAlign (State.Bounded.onMatcher (((h.onReceiver .left).onReceiver .right).onStore _)
    (Nat.zero_le _)) _

theorem clearPrefix (h : s.Bounded) : s.clearPrefix.Bounded := h.onReader

theorem tellLink (h : s.Bounded) (p enable e) : (s.tellLink p enable e).Bounded := by
  unfold State.tellLink
  split
  · split
    · exact h.linkOn e
    · exact h.linkOff e
  · exact h

theorem effectPark (h : s.Bounded) : s.effectPark.Bounded := (h.setReader _).setCause _

/-- The reader calls where its return stack has room. -/
theorem pushReturn (h : s.Bounded) (a : Nat) (room : s.reader.stack.length < 4) :
    (s.onReader fun r => { r with stack := a :: r.stack }).Bounded := { h with stack := room }

/-- CALL passes its check where the return stack has room (R145, R161). -/
theorem effectCall (h : s.Bounded) {target : Nat} (passes : s.stateFault (.call target) = none) :
    (s.effectCall target).Bounded := by
  have judged : s.stateFault (.call target) = if s.reader.stack.length < 4 then none else some .callDepth := rfl
  rw [judged] at passes
  split at passes
  · next room => exact (h.pushReturn _ room).jumpTo target
  · cases passes

theorem effectReturn (h : s.Bounded) : s.effectReturn.Bounded := by
  unfold State.effectReturn
  split
  · exact h
  · next a rest stack =>
    have popped : (s.onReader fun r => { r with stack := rest }).Bounded := { h with
      stack := by
        have room := h.stack
        rw [stack, List.length_cons] at room
        exact (Nat.le_succ _).trans room }
    exact popped.jumpTo a

/-- A cue that places a record passes its check where a place can be reserved (R148). -/
theorem roomHold_none (passes : s.roomHold = none) : s.writer.canReserve = true := by
  unfold State.roomHold at passes
  split at passes
  · assumption
  · cases passes

theorem effectTarget (h : s.Bounded) {x : Target} (passes : s.holdOf (.target x) = none) :
    (s.effectTarget x).Bounded := by
  have judged : s.holdOf (.target x) = if s.delivery.targets.length < 32 then none else some .targetRoom := rfl
  rw [judged] at passes
  split at passes
  · next room =>
    have joined : (s.onDelivery fun d => { d with targets := d.targets ++ [x] }).Bounded := { h with
      targets := by simp only [State.onDelivery_delivery, List.length_append, List.length_singleton]; omega }
    exact joined.advancePast _
  · cases passes

theorem effectRecall (h : s.Bounded) (passes : s.roomHold = none) : s.effectRecall.Bounded := by
  have recalled : (s.onDelivery fun d => { d with targets := [] }).Bounded := { h with targets := Nat.zero_le 32 }
  exact (recalled.place _ (roomHold_none passes)).advancePast _

theorem effectOpenTake (h : s.Bounded) {n : BitVec 32} (passes : s.holdOf (.openTake n) = none) :
    (s.effectOpenTake n).Bounded := by
  have judged : s.holdOf (.openTake n) = if s.matcher.take = .closing then some .takeClosing else s.roomHold := rfl
  rw [judged] at passes
  split at passes
  · cases passes
  · have opened : (s.onMatcher fun m => m.openTake n s.now).Bounded := h.onMatcher
    exact (opened.place _ (roomHold_none passes)).advancePast _

theorem effectNote (h : s.Bounded) {v : BitVec 32} (passes : s.roomHold = none) : (s.effectNote v).Bounded :=
  (h.place _ (roomHold_none passes)).advancePast _

theorem effectWait (h : s.Bounded) (c) : (s.effectWait c).Bounded := by
  unfold State.effectWait CueReader.beginWait
  refine (h.shorten ?_ ?_ ?_).resume <;> dsimp only <;> split <;> simp [CueReader.advance]

/-- The execution of a cue that has passed its state checks and its hold conditions (R142). -/
theorem perform (h : s.Bounded) {c : Cue} (fault : s.stateFault c = none) (hold : s.holdOf c = none) :
    (s.perform c).Bounded := by
  cases c with
  | park => exact h.effectPark
  | pad => exact h.advancePast _
  | jump target => exact h.jumpTo target
  | call target => exact h.effectCall fault
  | ret => exact h.effectReturn
  | eye x => exact (h.onReader).advancePast _
  | format f => exact (((h.flush true).onSettings _).onAlign _).advancePast _
  | orient o => exact (((h.flush true).onSettings _).clearPrefix.onAlign _).advancePast _
  | probes p => exact (((h.flush true).onSettings _).onAlign _).advancePast _
  | link enable => exact (((h.onSettings _).clearPrefix.tellLink _ _ _).tellLink _ _ _).advancePast _
  | matching m => exact ((h.onSettings _).onMatcher).pass.advancePast _
  | track x => exact ((h.onSettings _).onAlign _).advancePast _
  | samples x => exact (h.onSettings _).advancePast _
  | pace p => exact ((h.onSettings _).onPace _).advancePast _
  | target x => exact h.effectTarget hold
  | openTake n => exact h.effectOpenTake hold
  | closeTake => exact (h.onMatcher).closeCheck.advancePast _
  | note v => exact h.effectNote hold
  | wait c => exact h.effectWait c
  -- the recall cue: `recall` is a keyword of Mathlib and cannot name a case
  | _ => exact h.effectRecall hold

end State.Bounded

/-! ### A cue that passes every check has passed its own (R142) -/

theorem State.judgeCue_ready {s : State} {c d : Cue} (h : s.judgeCue c = .ready d) :
    s.stateFault d = none ∧ s.holdOf d = none := by
  unfold State.judgeCue at h
  split at h
  · cases h
  · next fault =>
    split at h
    · cases h
    · next hold => cases h; exact ⟨fault, hold⟩

theorem State.judgeLength_ready {s : State} {n : CueName} {length : Nat} {c : Cue}
    (h : s.judgeLength n length = .ready c) : s.stateFault c = none ∧ s.holdOf c = none := by
  unfold State.judgeLength State.judgeBytes at h
  split at h
  · split at h
    · cases h
    · split at h
      · cases h
      · exact State.judgeCue_ready h
  · cases h

theorem State.judgeProbes_ready {s : State} {c : Cue} (h : s.judgeProbes = .ready c) :
    s.stateFault c = none ∧ s.holdOf c = none := by
  unfold State.judgeProbes at h
  split at h
  · cases h
  · split at h
    · cases h
    · split at h
      · cases h
      · exact State.judgeLength_ready h

theorem State.verdict_ready {s : State} {c : Cue} (h : s.verdict = .ready c) :
    s.stateFault c = none ∧ s.holdOf c = none := by
  unfold State.verdict State.judgeNamed at h
  split at h
  · cases h
  · split at h
    · cases h
    · split at h
      · cases h
      · split at h
        · exact State.judgeProbes_ready h
        · exact State.judgeLength_ready h

namespace State.Bounded
variable {s t : State}

theorem performReady (h : s.Bounded) {c : Cue} (ready : s.verdict = .ready c) : (s.perform c).Bounded :=
  h.perform (State.verdict_ready ready).1 (State.verdict_ready ready).2

theorem cueCommand (h : s.Bounded) (n) : (s.cueCommand n).Bounded := by
  unfold State.cueCommand State.holdCue
  split
  · next ready =>
    split
    · exact h.performReady ready
    · exact h
  · split
    · exact (h.setReader _).tryFetch
    · exact h
  · exact h

theorem judgeHeld (h : s.Bounded) : s.judgeHeld.Bounded := by
  unfold State.judgeHeld
  split
  · next ready => exact h.performReady ready
  · exact h.setReader _
  · exact h

/-! ### The Register Window -/

theorem halt (h : s.Bounded) (reason) : (s.halt reason).Bounded := (h.onRegs _).setCause _

theorem restart (s : State) (p : Straps) : (s.restart p).Bounded := by
  constructor <;> simp [State.restart, State.powerOn, ResultWriter.reset, DeliveryEngine.reset, PairMatcher.reset,
    CueReader.reset, SamplePort.reset, Receiver.restarted, Receiver.reset]

theorem commandStart (h : s.Bounded) : s.commandStart.Bounded := by
  unfold State.commandStart State.acceptStart
  split
  · split
    · exact (h.onRegs _).onRegs _
    · exact (h.onRegs _).halt _
  · split
    · exact (h.onRegs _).onRegs _
    · exact (h.onRegs _).halt _
  all_goals exact h.onRegs _

theorem commandStop (h : s.Bounded) : s.commandStop.Bounded := by
  have stopped : ∀ u : State, u.Bounded → u.stopActions.Bounded := fun u g =>
    ((((State.Bounded.onMatcher g).linkOff .left).linkOff .right).dropPartials.onAlign _).setReader _
  unfold State.commandStop State.acceptStop
  split
  · exact stopped _ (h.onRegs _)
  · exact stopped _ (h.onRegs _)
  all_goals exact h.onRegs _

theorem softReset (s : State) : s.softReset.Bounded := { restart s s.straps with }

theorem writeRegister (h : s.Bounded) (offset v) : (s.writeRegister offset v).Bounded := by
  unfold State.writeRegister
  split
  · unfold State.writeControl
    split
    · exact h.commandStart
    · exact h.commandStop
    · exact softReset s
    · exact h
  · exact h.setIrq _ _
  · exact h.setIrq _ _
  · exact h.onRegs _
  · exact h.onRegs _
  · exact h

theorem startCause (h : s.Bounded) (e) : (s.startCause e).Bounded := by
  unfold State.startCause
  split
  · exact h.setCause _
  · exact h

/-- The START actions empty every collection but the histories, which entry to HUNT or OFF empties (R192). -/
theorem enterRunning (h : s.Bounded) (header exchange) : (s.enterRunning header exchange).Bounded := by
  have started : ∀ enabled r, (Receiver.start enabled r).history = [] := fun enabled r => by
    unfold Receiver.start
    cases enabled <;> rfl
  have caused := (((h.onRegs fun r => r.enterRunning header exchange).flush false).startCause .left).startCause .right
  have links : ((s.onRegs fun r => r.enterRunning header exchange).flush false).startLinks.Bounded :=
    (caused.onReceiver .left (emptied (started _))).onReceiver .right (emptied (started _))
  exact State.Bounded.tryFetch
    { places := Nat.zero_le 8, reserved := rfl, table := Nat.zero_le 6, targets := Nat.zero_le 32
      stack := Nat.zero_le 4, leftLens := Nat.zero_le 4, rightLens := Nat.zero_le 4, rig := Nat.zero_le 4
      left := links.left, right := links.right, buffer := Nat.zero_le 32, fetch := fun f => nomatch f }

theorem judgeHeader (h : s.Bounded) (header exchange) : (s.judgeHeader header exchange).Bounded := by
  unfold State.judgeHeader
  split
  · exact h.enterRunning _ _
  · exact h.halt _

theorem stopReader (h : s.Bounded) : (s.onReader CueReader.stop).Bounded := { h with fetch := fun f => nomatch f }

/-- A bus error drops the delivery in flight with its reservation (R122). -/
theorem busError (h : s.Bounded) : s.busError.Bounded := by
  have dropped : (State.dropCopy { s with carried := s.abandoned }).Bounded := { h with
    places := (Nat.le_add_right _ _).trans h.places
    reserved := rfl }
  exact ((stopReader (dropped.dropPartials.onWriter (f := ResultWriter.stop))).onRegs _).halt _

theorem issueFinal (h : s.Bounded) : ((s.onWriter ResultWriter.discard).issueStatus true).Bounded := by
  have discarded : (s.onWriter ResultWriter.discard).Bounded := { h with
    places := (Nat.add_le_add_right (Nat.zero_le _) _).trans h.places }
  exact discarded.issueStatus true

theorem acceptFinal (h : s.Bounded) : s.acceptFinal.Bounded := by
  unfold State.acceptFinal
  split
  · exact h
  · split
    · exact h.statusAccepted _
    · exact h

/-- IDLE empties every collection (R194). -/
theorem enterIdle (s : State) : s.enterIdle.Bounded :=
  { places := Nat.zero_le 8, reserved := rfl, table := Nat.zero_le 6, targets := Nat.zero_le 32
    stack := Nat.zero_le 4, leftLens := Nat.zero_le 4, rightLens := Nat.zero_le 4, rig := Nat.zero_le 4
    left := Nat.zero_le 8, right := Nat.zero_le 8, buffer := Nat.zero_le 32, fetch := fun f => nomatch f }

theorem powerOn (p : Straps) : (State.powerOn p).Bounded :=
  { places := Nat.zero_le 8, reserved := rfl, table := Nat.zero_le 6, targets := Nat.zero_le 32
    stack := Nat.zero_le 4, leftLens := Nat.zero_le 4, rightLens := Nat.zero_le 4, rig := Nat.zero_le 4
    left := Nat.zero_le 8, right := Nat.zero_le 8, buffer := Nat.zero_le 32, fetch := fun f => nomatch f }

/-! ### The commands -/

/-- A conditional effect. -/
theorem ite {p : Prop} [Decidable p] (yes : p → s.Bounded) (no : ¬ p → t.Bounded) :
    (if p then s else t).Bounded := by
  split
  · exact yes ‹_›
  · exact no ‹_›

theorem headerReadReturn (h : s.Bounded) (header) :
    ∃ t : State, exec (.headerReadReturn header) s = .next t ∧ t.Bounded := by
  refine ⟨_, rfl, ?_⟩
  split
  · exact h
  · exact ite (fun _ => (h.onRegs _).judgeHeader _ _) fun _ => h.onRegs _

theorem tickTimerExpiry (h : s.Bounded) (order) :
    ∃ t : State, exec (.tickTimerExpiry order) s = .next t ∧ t.Bounded := by
  refine ⟨_, rfl, ?_⟩
  split
  · exact h
  · exact h.timerTick _ _

theorem holdoverLimitReached (h : s.Bounded) (order) :
    ∃ t : State, exec (.holdoverLimitReached order) s = .next t ∧ t.Bounded := by
  refine ⟨_, rfl, ?_⟩
  split
  · exact h
  · exact ite (fun _ => h.timerTick _ _) fun _ => h

theorem measurementBegin (h : s.Bounded) : ∃ t : State, exec .measurementBegin s = .next t ∧ t.Bounded := by
  refine ⟨_, rfl, ite (fun _ => ?_) fun _ => h⟩
  split
  · exact h
  · exact h.onAlign _

theorem measurementEnd (h : s.Bounded) : ∃ t : State, exec .measurementDone s = .next t ∧ t.Bounded := by
  refine ⟨_, rfl, ?_⟩
  split
  · exact h
  · exact h.measurementDone _

theorem deliveryStart (h : s.Bounded) : ∃ t : State, exec .deliveryStart s = .next t ∧ t.Bounded := by
  refine ⟨_, rfl, ite (fun can => ?_) fun _ => h⟩
  split
  · exact h.startDelivery can _ _
  · exact h

theorem copyCompletion (h : s.Bounded) (writes) :
    ∃ t : State, exec (.copyCompletion writes) s = .next t ∧ t.Bounded := by
  refine ⟨_, rfl, ?_⟩
  split
  · next copying _ =>
    refine ite (fun _ => ?_) fun _ => h
    split
    · exact h.completeCopy _ _ copying
    · exact h.acceptRows _ _ _ copying
  · exact h

theorem recordWriteAccepted (h : s.Bounded) : ∃ t : State, exec .recordWriteAccepted s = .next t ∧ t.Bounded := by
  refine ⟨_, rfl, ?_⟩
  split
  · exact h
  · exact ite (fun _ => ((h.carry _).written.setCause _).judgeHead) fun _ => h

theorem statusWriteAccepted (h : s.Bounded) : ∃ t : State, exec .statusWriteAccepted s = .next t ∧ t.Bounded := by
  refine ⟨_, rfl, ?_⟩
  split
  · exact h
  · exact ite (fun _ => h.statusAccepted _) fun _ => h

theorem cueFetchReturn (h : s.Bounded) (word) :
    ∃ t : State, exec (.cueFetchReturn word) s = .next t ∧ t.Bounded := by
  refine ⟨_, rfl, ?_⟩
  split
  · exact h
  · next inFlight => exact h.fetchReturned _ _ inFlight

theorem faultRecordPlaced (h : s.Bounded) : ∃ t : State, exec .faultRecordPlaced s = .next t ∧ t.Bounded := by
  refine ⟨_, rfl, ?_⟩
  split
  · exact ite (fun room => State.Bounded.place (h.onReader) _ room) fun _ => h
  · exact h

theorem holdRelease (h : s.Bounded) : ∃ t : State, exec .holdRelease s = .next t ∧ t.Bounded := by
  refine ⟨_, rfl, ?_⟩
  split
  · exact h.judgeHeld
  · exact h

theorem waitEnd (h : s.Bounded) : ∃ t : State, exec .waitEnd s = .next t ∧ t.Bounded := by
  refine ⟨_, rfl, ?_⟩
  split
  · exact (h.setReader _).resume
  · exact h

/-- Every command keeps the bounds. -/
theorem exec (h : s.Bounded) (c : Instr) : ∃ t : State, exec c s = .next t ∧ t.Bounded := by
  cases c with
  | powerOnReset pins => exact ⟨_, rfl, { powerOn (sampleStraps pins) with }⟩
  | pcieLinkReset pins => exact ⟨_, rfl, restart s _⟩
  | start => exact ⟨_, rfl, h.commandStart⟩
  | stop => exact ⟨_, rfl, h.commandStop⟩
  | reset => exact ⟨_, rfl, softReset s⟩
  | causeWrite v => exact ⟨_, rfl, h.setIrq _ _⟩
  | enableWrite v => exact ⟨_, rfl, h.setIrq _ _⟩
  | registerWrite offset width v =>
    cases width with
    | word => exact ⟨_, rfl, h.writeRegister _ v⟩
    | byte => exact ⟨_, rfl, h⟩
    | half => exact ⟨_, rfl, h⟩
  | headerReadReturn header => exact h.headerReadReturn header
  | busError a => exact ⟨_, rfl, ite (fun _ => h.busError) fun _ => h⟩
  | readTimeout a => exact ⟨_, rfl, ite (fun _ => h.busError) fun _ => h⟩
  | referencePulse order => exact ⟨_, rfl, ite (fun _ => h.takePulse order) fun _ => h⟩
  | lossDeadlineExpiry order => exact ⟨_, rfl, ite (fun _ => h.enterHoldover _ order) fun _ => h⟩
  | tickTimerExpiry order => exact h.tickTimerExpiry order
  | holdoverLimitReached order => exact h.holdoverLimitReached order
  | silenceExpiry e => exact ⟨_, rfl, h.takeOwedSilence e⟩
  | huntMarkFound e position mark =>
    exact ⟨_, rfl, h.unlessOff (ite (fun _ => h.onReceiver e (pushed fun _ => true)) fun _ => h) e⟩
  | verifyMark e position mark =>
    exact ⟨_, rfl, h.unlessOff (ite (fun _ => h.onReceiver e fun r => verify_history r position mark) fun _ => h) e⟩
  | rowPosition e mark body => exact ⟨_, rfl, h.unlessOff (h.rowAtPosition e mark body) e⟩
  | frameHead e head => exact ⟨_, rfl, h.unlessOff (ite (fun _ => h.takeHead e head) fun _ => h) e⟩
  | frameTail e tail => exact ⟨_, rfl, h.unlessOff (ite (fun _ => h.takeTail e tail) fun _ => h) e⟩
  | fillUnit e fill => exact ⟨_, rfl, h.unlessOff (ite (fun _ => h.onReceiver e) fun _ => h) e⟩
  | partnerWaitExpiry => exact ⟨_, rfl, ite (fun _ => h) fun _ => h.takeOwedTick⟩
  | takeCloseCompletion => exact ⟨_, rfl, ite (fun _ => h.takeOwedTick) fun _ => h⟩
  | sampleMessage port c framing => exact ⟨_, rfl, ite (fun _ => h.takeCharacter port c framing) fun _ => h⟩
  | messageDeadlineExpiry port => exact ⟨_, rfl, ite (fun _ => h.onPort port) fun _ => h⟩
  | measurementBegin => exact h.measurementBegin
  | measurementDone => exact h.measurementEnd
  | deliveryStart => exact h.deliveryStart
  | copyCompletion writes => exact h.copyCompletion writes
  | recordWriteAccepted => exact h.recordWriteAccepted
  | consumedReadReturn v => exact ⟨_, rfl, ite (fun _ => (h.onWriter).judgeAgain) fun _ => h⟩
  | statusWriteAccepted => exact h.statusWriteAccepted
  | drainingEndReached => exact ⟨_, rfl, ite (fun _ => h.issueFinal) fun _ => h⟩
  | endOfDraining =>
    exact ⟨_, rfl, ite (fun _ => ite (fun _ => enterIdle _) fun _ => h) fun _ => h⟩
  | cueFetchReturn word => exact h.cueFetchReturn word
  | faultRecordPlaced => exact h.faultRecordPlaced
  | holdRelease => exact h.holdRelease
  | waitEnd => exact h.waitEnd
  | sampleCharacter port c framing => exact ⟨_, rfl, h.takeCharacter port c framing⟩
  | configurationAccess msi busMaster => exact ⟨_, rfl, h.onRegs _⟩
  | park => exact ⟨_, rfl, h.cueCommand .park⟩
  | pad => exact ⟨_, rfl, h.cueCommand .pad⟩
  | jump => exact ⟨_, rfl, h.cueCommand .jump⟩
  | call => exact ⟨_, rfl, h.cueCommand .call⟩
  | returnCue => exact ⟨_, rfl, h.cueCommand .ret⟩
  | eyeCue => exact ⟨_, rfl, h.cueCommand .eye⟩
  | format => exact ⟨_, rfl, h.cueCommand .format⟩
  | orient => exact ⟨_, rfl, h.cueCommand .orient⟩
  | probes => exact ⟨_, rfl, h.cueCommand .probes⟩
  | link => exact ⟨_, rfl, h.cueCommand .link⟩
  | matchCue => exact ⟨_, rfl, h.cueCommand .matching⟩
  | track => exact ⟨_, rfl, h.cueCommand .track⟩
  | samples => exact ⟨_, rfl, h.cueCommand .samples⟩
  | pace => exact ⟨_, rfl, h.cueCommand .pace⟩
  | target => exact ⟨_, rfl, h.cueCommand .target⟩
  | openTake => exact ⟨_, rfl, h.cueCommand .openTake⟩
  | closeTake => exact ⟨_, rfl, h.cueCommand .closeTake⟩
  | note => exact ⟨_, rfl, h.cueCommand .note⟩
  | waitCue => exact ⟨_, rfl, h.cueCommand .wait⟩
  -- the recall cue: `recall` is a keyword of Mathlib and cannot name a case
  | _ => exact ⟨_, rfl, h.cueCommand .recall⟩

/-- An empty queue takes the part's own event onto the queue, or lets a microsecond pass. -/
theorem idle (h : s.Bounded) : s.idle.Bounded := by
  unfold State.idle
  split
  · exact { h with }
  · exact h.onPace _

theorem step (h : s.Bounded) (answer : step s = .next t) : t.Bounded := by
  unfold Machine.step at answer
  split at answer
  · cases answer; exact h.idle
  · next c rest _ =>
    obtain ⟨u, next, bounded⟩ := State.Bounded.exec (s := { s with pending := rest }) { h with } c
    rw [next] at answer
    cases answer
    exact bounded

end State.Bounded

end Sys2Proof.Machine

open Sys2Proof.Machine

/-- Settles O55: the bounds, one field for each collection, are kept by the operations of every block, so by every
command and by the part's own events. -/
theorem stepKeepsBounds : Obligations.StepKeepsBounds := by
  unfold Obligations.StepKeepsBounds
  intro s t places room buffer answer
  exact (State.bounded_iff t).1 (((State.bounded_iff s).2 ⟨places, room, buffer⟩).step answer)

end

section
/-! The machine after reset, and the flush of the Frame Store (R32, R33, R199). -/

open Sys2Proof Sys2Proof.Machine

/-- Settles O4: each field of the reset state is the value written out. -/
theorem resetValues : Obligations.ResetValues := by
  unfold Obligations.ResetValues
  exact ⟨rfl, rfl, rfl, rfl, rfl, rfl, rfl, rfl, rfl, rfl, rfl, rfl, rfl, rfl, rfl, rfl, rfl⟩

/-- Settles O46: the flush is its equation, the count of the stored slots being the length of their list. -/
theorem flushEmptiesPool : Obligations.FlushEmptiesPool := by
  unfold Obligations.FlushEmptiesPool
  intro counted s cut stored
  have cuts : ∀ r, Receiver.flushCut counted r = cut r := fun r => by
    simp only [Receiver.flushCut, cut, Bool.and_eq_true]
  have counts : s.store.slots.countP Slot.isStored = stored := by
    rw [List.countP_eq_length_filter]
    refine congrArg (fun p => (s.store.slots.filter p).length) (funext fun x => ?_)
    cases x <;> rfl
  rw [← counts, ← cuts, ← cuts]
  rfl

end

section
/-! SUPPORT. The Link Receivers: what reads the link units, and what each link command does in each sync state. -/

namespace Sys2Proof.Machine

/-! ### One eye's receiver -/

/-- A change of one eye's receiver is what it makes of that receiver. -/
theorem State.onReceiver_congr {s : State} {e : Eye} {f g : Receiver → Receiver}
    (h : f (s.receiver e) = g (s.receiver e)) : s.onReceiver e f = s.onReceiver e g := by
  cases e
  · exact congrArg (fun r => { s with left := r }) h
  · exact congrArg (fun r => { s with right := r }) h

/-- A change that leaves the receiver as it is changes nothing. -/
theorem State.onReceiver_self {s : State} {e : Eye} {f : Receiver → Receiver}
    (h : f (s.receiver e) = s.receiver e) : s.onReceiver e f = s := by
  rw [State.onReceiver_congr (g := fun r => r) h]
  cases e <;> rfl

/-- Two changes of one eye's receiver are one. -/
theorem State.onReceiver_onReceiver (s : State) (e : Eye) (f g : Receiver → Receiver) :
    (s.onReceiver e f).onReceiver e g = s.onReceiver e fun r => g (f r) := by cases e <;> rfl

/-- The other eye's receiver stays. -/
@[simp] theorem State.onReceiver_other (s : State) (e : Eye) (f : Receiver → Receiver) :
    (s.onReceiver e f).receiver (otherEye e) = s.receiver (otherEye e) := by cases e <;> rfl

/-! ### Reading marks (R1, R2, R6) -/

theorem isMark_iff (mark : BitVec 64) : isMark mark = true ↔ mark.extractLsb' 0 32 = 0x9A6C35E1#32 := beq_iff_eq

theorem markCheck_iff (mark : BitVec 64) : markCheck mark = true ↔
    (mark.extractLsb' 48 16).toNat = 65535 - (mark.extractLsb' 32 16).toNat := beq_iff_eq

/-- A good mark: the pattern, a good mark check, and the row number expected (R6). -/
theorem Receiver.judge_iff (r : Receiver) (mark : BitVec 64) : r.judge mark = true ↔
    mark.extractLsb' 0 32 = 0x9A6C35E1#32 ∧
    (mark.extractLsb' 48 16).toNat = 65535 - (mark.extractLsb' 32 16).toNat ∧
    (mark.extractLsb' 32 16).toNat = r.expectedRow := by
  rw [← isMark_iff, ← markCheck_iff, Receiver.judge, Bool.and_eq_true, Bool.and_eq_true, beq_iff_eq, and_assoc]
  rfl

/-- The found mark of HUNT: a pattern past the bytes examined, its mark check good, its row number a sensor's (R4). -/
theorem Receiver.finds_iff (r : Receiver) (position : Nat) (mark : BitVec 64) : r.finds position mark = true ↔
    r.sync = .hunt ∧ r.scanFrom ≤ position ∧ isMark mark = true ∧ markCheck mark = true ∧ markRow mark < 4096 := by
  simp only [Receiver.finds, Config.rowNumbers, Bool.and_eq_true, beq_iff_eq, decide_eq_true_eq, and_assoc]

/-! ### Marks in HUNT and VERIFY (R4, R5) -/

theorem exec_huntMarkFound_of_finds {s : State} {e : Eye} {position : Nat} {mark : BitVec 64}
    (h : (s.receiver e).finds position mark = true) : exec (.huntMarkFound e position mark) s =
      .next (s.onReceiver e fun r => r.foundMark position (markRow mark)) := by
  have on : (s.receiver e).sync ≠ .off := by rw [((Receiver.finds_iff _ _ _).1 h).1]; decide
  exact congrArg _ ((State.unlessOff_on on _ _).trans (if_pos h))

theorem exec_huntMarkFound_of_not_finds {s : State} {e : Eye} {position : Nat} {mark : BitVec 64}
    (on : (s.receiver e).sync ≠ .off) (h : ¬ (s.receiver e).finds position mark = true) :
    exec (.huntMarkFound e position mark) s = .next s :=
  congrArg _ ((State.unlessOff_on on _ _).trans (if_neg h))

theorem exec_verifyMark_of_verify {s : State} {e : Eye} (h : (s.receiver e).sync = .verify) (position : Nat)
    (mark : BitVec 64) : exec (.verifyMark e position mark) s =
      .next (s.onReceiver e fun r => r.verify position mark) := by
  have on : (s.receiver e).sync ≠ .off := by rw [h]; decide
  exact congrArg _ ((State.unlessOff_on on _ _).trans (if_pos h))

section
variable {r : Receiver} {position length : Nat} {mark : BitVec 64}

/-- No pattern within the greatest row length: HUNT goes on past it (R5). -/
theorem Receiver.verify_far (unknown : r.rowLength = none) (far : r.foundPosition + 8202 < position) :
    r.verify position mark = r.enterHunt (r.foundPosition + 8203) := by
  simp only [Receiver.verify, unknown, Receiver.scanMark, Config.maxRowLength]
  rw [if_neg (by omega), if_pos far]

/-- A pattern within reach of the found mark is the first further mark, good or bad; other bytes are passed over
(R5). -/
theorem Receiver.verify_near (unknown : r.rowLength = none) (past : r.foundPosition + 8 ≤ position)
    (near : position ≤ r.foundPosition + 8202) : r.verify position mark =
      if isMark mark = true then (if r.judge mark = true then r.firstMark position else r.enterHunt (position + 8))
      else r := by
  simp only [Receiver.verify, unknown, Receiver.scanMark, Config.maxRowLength]
  rw [if_neg (by omega), if_neg (by omega)]
  cases isMark mark <;> simp

/-- With the row length known, the row position is judged (R5). -/
theorem Receiver.verify_row (known : r.rowLength = some length) (placed : position = r.nextPosition)
    (row : isOpener mark = false) : r.verify position mark = r.verifyRow length mark := by
  simp only [Receiver.verify, known]
  exact if_pos ⟨placed, row⟩

end

end Sys2Proof.Machine

open Sys2Proof Sys2Proof.Machine

/-- Settles O19: a mark is judged by its three conditions, and each branch of HUNT and VERIFY is one change of the
receiver. -/
theorem marksVerified : Obligations.MarksVerified := by
  unfold Obligations.MarksVerified
  refine ⟨?_, ?_, ?_⟩
  · intro e position mark s row checked pattern sensor
    refine ⟨fun hunt scanned good => ?_, fun on other => ?_⟩
    · exact exec_huntMarkFound_of_finds ((Receiver.finds_iff _ _ _).2
        ⟨hunt, scanned, (isMark_iff mark).2 pattern, (markCheck_iff mark).2 good, Nat.lt_succ_of_le sensor⟩)
    · refine exec_huntMarkFound_of_not_finds on fun finds => ?_
      obtain ⟨hunt, scanned, -, good, -⟩ := (Receiver.finds_iff _ _ _).1 finds
      obtain bad | elsewhere | early := other
      · exact bad ((markCheck_iff mark).1 good)
      · exact elsewhere hunt
      · omega
  · intro e position mark s off discarded
    exact ⟨congrArg _ (State.unlessOff_off off _ _), congrArg _ (State.unlessOff_off off _ _)⟩
  · intro e position mark s r row expected isPattern good hunts verify
    have judged : r.judge mark = true ↔ good := r.judge_iff mark
    have shows : isMark mark = true ↔ isPattern := isMark_iff mark
    have examinedBytes : examined mark = if isPattern then 8 else 4 := by simp only [examined, shows]
    have verified : ∀ g, r.verify position mark = g r →
        exec (.verifyMark e position mark) s = .next (s.onReceiver e g) := fun g same =>
      (exec_verifyMark_of_verify verify position mark).trans (congrArg _ (State.onReceiver_congr same))
    refine ⟨fun unknown past near => ?_, fun unknown far => ?_, fun length known placed row => ?_⟩
    · have scanned := Receiver.verify_near (mark := mark) unknown past near
      refine ⟨fun isGood => verified _ ?_, fun pattern bad => verified _ ?_, fun other => ?_⟩
      · rw [scanned, if_pos (shows.2 isGood.1), if_pos (judged.2 isGood)]
        rfl
      · rw [scanned, if_pos (shows.2 pattern), if_neg (mt judged.1 bad)]
        rfl
      · rw [if_neg (mt shows.1 other)] at scanned
        exact (verified (fun r => r) scanned).trans (congrArg _ (State.onReceiver_self rfl))
    · exact verified _ (Receiver.verify_far unknown far)
    · have row := Receiver.verify_row known placed row
      refine ⟨fun isGood few => verified _ ?_, fun isGood last => verified _ ?_, fun bad => verified _ ?_⟩
      · rw [row, Receiver.verifyRow, if_pos (judged.2 isGood), Receiver.furtherMark, if_neg (by omega)]
        rfl
      · rw [row, Receiver.verifyRow, if_pos (judged.2 isGood), Receiver.furtherMark, if_pos (by omega), last]
        rfl
      · rw [row, Receiver.verifyRow, if_neg (mt judged.1 bad), examinedBytes]
        rfl

end

section
/-! SUPPORT. A receiver's departure from FRAME_LOCK (R11, R26, R50): what it leaves, and what it makes of the frame
being filled. -/

namespace Sys2Proof.Machine

/-! ### Slots and receivers under the shared operations -/

theorem FrameStore.slot_setSlot_ne (f : FrameStore) {m n : Nat} (x : Slot) (h : m ≠ n) :
    (f.setSlot m x).slot n = f.slot n := by
  simp [FrameStore.setSlot, FrameStore.slot, List.getD_eq_getElem?_getD, List.getElem?_set_ne h]

theorem FrameStore.slot_setSlot_self (f : FrameStore) {n : Nat} (x : Slot) (h : n < f.slots.length) :
    (f.setSlot n x).slot n = x := by
  simp [FrameStore.setSlot, FrameStore.slot, List.getD_eq_getElem?_getD, h]

/-- A slot outside the pool is FREE, and so a slot that is freed is FREE wherever it stands. -/
theorem FrameStore.slot_setSlot_free (f : FrameStore) (n : Nat) : (f.setSlot n .free).slot n = .free := by
  by_cases h : n < f.slots.length
  · exact f.slot_setSlot_self .free h
  · simp [FrameStore.setSlot, FrameStore.slot, List.getD_eq_getElem?_getD, h]

@[simp] theorem FrameStore.slot_onQueue (f : FrameStore) (e : Eye) (g : List Nat → List Nat) (n : Nat) :
    (f.onQueue e g).slot n = f.slot n := by cases e <;> rfl

@[simp] theorem FrameStore.onQueue_mem (f : FrameStore) (e : Eye) (g : List Nat → List Nat) :
    (f.onQueue e g).mem = f.mem := by cases e <;> rfl

@[simp] theorem State.setCause_receiver (s : State) (c : Cause) (e : Eye) :
    (s.setCause c).receiver e = s.receiver e := by cases e <;> simp

@[simp] theorem State.closeCheck_receiver (s : State) (e : Eye) : s.closeCheck.receiver e = s.receiver e := by
  cases e <;> simp

@[simp] theorem State.pass_receiver (s : State) (e : Eye) : s.pass.receiver e = s.receiver e := by
  cases e <;> simp

@[simp] theorem State.onMatcher_receiver (s : State) (f : PairMatcher → PairMatcher) (e : Eye) :
    (s.onMatcher f).receiver e = s.receiver e := by cases e <;> rfl

@[simp] theorem State.onStore_receiver (s : State) (f : FrameStore → FrameStore) (e : Eye) :
    (s.onStore f).receiver e = s.receiver e := by cases e <;> rfl

/-- With no take CLOSING the close check changes nothing. -/
theorem State.closeCheck_of_not_closing {s : State} (h : s.matcher.take ≠ .closing) : s.closeCheck = s :=
  if_neg fun c => h c.2.1

/-! ### Acts of a disposal pass -/

/-- A cause that is set stays set when others are. -/
theorem cause_kept {old bit : BitVec 9} (new : BitVec 9) (h : old &&& bit = bit) : (old ||| new) &&& bit = bit := by
  ext i hi
  have here := congrArg (fun b : BitVec 9 => b[i]) h
  simp only [BitVec.getElem_and] at here
  simp only [BitVec.getElem_and, BitVec.getElem_or, Bool.and_or_distrib_right, here]
  cases bit[i] <;> simp

/-- A cause just set is set. -/
theorem cause_set (old bit : BitVec 9) : (old ||| bit) &&& bit = bit := by
  ext i hi
  simp only [BitVec.getElem_and, BitVec.getElem_or]
  cases bit[i] <;> simp

/-- The slot of a queued head is QUEUED. -/
theorem State.head_slot {s : State} {e : Eye} {x : Nat × FrameRecord} (h : s.head e = some x) :
    s.store.slot x.1 = .queued x.2 := by
  unfold State.head at h
  split at h
  · cases h
  · split at h
    · next queued => cases h; exact queued
    · cases h

@[simp] theorem PairMatcher.setMark_take (m : PairMatcher) (e : Eye) (w : WaitMark) :
    (m.setMark e w).take = m.take := by cases e <;> rfl

namespace State.Act
variable {s t : State}

theorem take (a : s.Act t) : t.matcher.take = s.matcher.take := by
  cases a with
  | pair l r _ _ _ => unfold State.formPair State.updateSkew; dsimp only; split <;> simp [PairMatcher.join]
  | orphan e x _ _ => simp [State.formOrphan, PairMatcher.join]
  | release e x _ => simp [State.releaseOrphan]

theorem mem (a : s.Act t) : t.store.mem = s.store.mem := by
  cases a with
  | pair l r _ _ _ => simp [State.formPair, (State.updateSkew_keeps _ _).1, FrameStore.take, FrameStore.setSlot]
  | orphan e x _ _ => simp [State.formOrphan, FrameStore.take, FrameStore.setSlot]
  | release e x _ => simp [State.releaseOrphan, FrameStore.releaseHead, FrameStore.setSlot]

theorem writer_reader (a : s.Act t) : t.writer = s.writer ∧ t.reader = s.reader := by
  cases a with
  | pair l r _ _ _ => unfold State.formPair State.updateSkew; dsimp only; split <;> simp
  | orphan e x _ _ => exact ⟨rfl, rfl⟩
  | release e x _ => exact ⟨rfl, rfl⟩

/-- An act clears no cause. -/
theorem cause (a : s.Act t) (c : BitVec 9) (h : s.regs.cause &&& c = c) : t.regs.cause &&& c = c := by
  cases a with
  | pair l r _ _ _ =>
    unfold State.formPair State.updateSkew
    dsimp only
    split
    · simpa using cause_kept _ h
    · simpa using h
  | orphan e x _ _ => exact h
  | release e x _ => exact h

/-- An act moves QUEUED slots alone. -/
theorem slot (a : s.Act t) {n : Nat} (h : ∀ f, s.store.slot n ≠ .queued f) :
    t.store.slot n = s.store.slot n := by
  have other : ∀ {e x}, s.head e = some x → x.1 ≠ n := fun head same => h _ (same ▸ State.head_slot head)
  cases a with
  | pair l r left right _ =>
    simp only [State.formPair, (State.updateSkew_keeps _ _).1, State.onAlign_store, State.onMatcher_store,
      State.onStore_store, FrameStore.take, FrameStore.slot_onQueue]
    rw [FrameStore.slot_setSlot_ne _ _ (other right), FrameStore.slot_onQueue,
      FrameStore.slot_setSlot_ne _ _ (other left)]
  | orphan e x head _ =>
    simp only [State.formOrphan, State.onMatcher_store, State.onStore_store, FrameStore.take,
      FrameStore.slot_onQueue]
    exact FrameStore.slot_setSlot_ne _ _ (other head)
  | release e x head =>
    simp only [State.releaseOrphan, State.onMatcher_store, State.onStore_store, FrameStore.releaseHead,
      FrameStore.slot_onQueue]
    exact FrameStore.slot_setSlot_ne _ _ (other head)

end State.Act

/-! ### A disposal pass -/

@[simp] theorem State.pass_mem (s : State) : s.pass.store.mem = s.store.mem :=
  State.pass_induction (P := fun t => t.store.mem = s.store.mem) (fun _ _ h a => a.mem.trans h)
    (fun t h => by rw [t.closeCheck_store]; exact h) rfl

theorem State.pass_cause (s : State) (c : BitVec 9) (h : s.regs.cause &&& c = c) : s.pass.regs.cause &&& c = c :=
  State.pass_induction (P := fun t => t.regs.cause &&& c = c) (fun _ _ h a => a.cause c h)
    (fun t h => by rw [t.closeCheck_regs]; exact h) h

/-- A slot that is not QUEUED stays as it is. -/
theorem State.pass_slot {s : State} {n : Nat} (h : ∀ f, s.store.slot n ≠ .queued f) :
    s.pass.store.slot n = s.store.slot n :=
  State.pass_induction (P := fun t => t.store.slot n = s.store.slot n)
    (fun t _ g a => (a.slot (by rw [g]; exact h)).trans g) (fun t g => by rw [t.closeCheck_store]; exact g) rfl

/-- With no take CLOSING a pass completes no close: the writer and the reader stay, and the take. -/
theorem State.pass_of_not_closing {s : State} (h : s.matcher.take ≠ .closing) :
    s.pass.matcher.take = s.matcher.take ∧ s.pass.writer = s.writer ∧ s.pass.reader = s.reader :=
  State.pass_induction
    (P := fun t => t.matcher.take = s.matcher.take ∧ t.writer = s.writer ∧ t.reader = s.reader)
    (fun _ _ g a => ⟨a.take.trans g.1, a.writer_reader.1.trans g.2.1, a.writer_reader.2.trans g.2.2⟩)
    (fun t g => by rw [State.closeCheck_of_not_closing (by rw [g.1]; exact h)]; exact g) ⟨rfl, rfl, rfl⟩

/-! ### The cut (R11, R26) -/

/-- The receiver whose frame is cut: it fills none, and a frame cut is counted. -/
def Receiver.afterCut (r : Receiver) : Receiver :=
  { r with
    filling := none
    counters := { r.counters with
      cuts := if r.filling.isSome then Counter.inc r.counters.cuts else r.counters.cuts } }

theorem Receiver.afterCut_of_not_filling {r : Receiver} (h : r.filling = none) : r.afterCut = r := by
  cases r
  simp_all [Receiver.afterCut]

section
variable (s : State) (e : Eye)

@[simp] theorem State.cutFilling_receiver : (s.cutFilling e).receiver e = (s.receiver e).afterCut := by
  unfold State.cutFilling
  split
  · next h => exact (Receiver.afterCut_of_not_filling h).symm
  · next h => simp [Receiver.count, Receiver.afterCut, h]

@[simp] theorem State.cutFilling_other : (s.cutFilling e).receiver (otherEye e) = s.receiver (otherEye e) := by
  unfold State.cutFilling; split <;> simp

@[simp] theorem State.cutFilling_mem : (s.cutFilling e).store.mem = s.store.mem := by
  unfold State.cutFilling FrameStore.cut FrameStore.freeIf
  split
  · rfl
  · simp; split <;> rfl

theorem State.cutFilling_of_not_closing (h : s.matcher.take ≠ .closing) :
    (s.cutFilling e).matcher = s.matcher ∧ (s.cutFilling e).writer = s.writer ∧
    (s.cutFilling e).reader = s.reader := by
  unfold State.cutFilling
  split
  · exact ⟨rfl, rfl, rfl⟩
  · rw [State.closeCheck_of_not_closing (by simpa using h)]
    simp

end

/-- The frame that is cut gives its slot back. -/
theorem State.cutFilling_free {s : State} {e : Eye} {f : Filling} (h : (s.receiver e).filling = some f)
    (slot : (s.store.slot f.slot).isFilling = true ∨ s.store.slot f.slot = .free) :
    (s.cutFilling e).store.slot f.slot = .free := by
  simp only [State.cutFilling, h, State.closeCheck_store, State.onReceiver_store, State.onStore_store, FrameStore.cut,
    FrameStore.freeIf]
  split
  · exact FrameStore.slot_setSlot_free _ _
  · next notFilling => exact slot.resolve_left notFilling

/-- A cut leaves a slot as it is, or frees it. -/
theorem State.cutFilling_slot (s : State) (e : Eye) (n : Nat) :
    (s.cutFilling e).store.slot n = s.store.slot n ∨ (s.cutFilling e).store.slot n = .free := by
  unfold State.cutFilling
  split
  · exact .inl rfl
  · next f _ =>
    rw [State.closeCheck_store, State.onReceiver_store, State.onStore_store, FrameStore.cut, FrameStore.freeIf]
    split
    · by_cases same : f.slot = n
      · exact .inr (same ▸ FrameStore.slot_setSlot_free _ _)
      · exact .inl (FrameStore.slot_setSlot_ne _ _ same)
    · exact .inl rfl

@[simp] theorem State.cutFilling_regs (s : State) (e : Eye) : (s.cutFilling e).regs = s.regs := by
  unfold State.cutFilling; split <;> simp

/-! ### The departure -/

/-- A departure in the operations of the model: the cut, the change, LINK, and the matcher told. -/
theorem State.departs_eq (s : State) (e : Eye) (after : Receiver → Receiver) :
    s.departs e after = (((s.cutFilling e).onReceiver e after).setCause .link).tellLeft := by
  obtain ⟨state, alarm⟩ := s.withCut_matcher e
  unfold State.departs State.afterDeparture State.tellLeft State.onMatcher PairMatcher.leftLock
  rw [State.cutFilling_withCut, ← state, ← alarm]
  refine congrArg State.pass ?_
  simp only [State.setCause_matcher, State.onReceiver_matcher]
  split <;> rfl

section
variable (s : State) (e : Eye) (after : Receiver → Receiver)

theorem State.departs_receiver : (s.departs e after).receiver e = after (s.receiver e).afterCut := by
  simp [State.departs_eq, State.tellLeft]

theorem State.departs_cause : (s.departs e after).regs.cause &&& 0x008#9 = 0x008#9 := by
  rw [State.departs_eq]
  refine State.pass_cause _ _ ?_
  rw [State.onMatcher_regs, State.setCause_regs]
  exact cause_set _ _

theorem State.departs_cause_kept (c : BitVec 9) (h : s.regs.cause &&& c = c) :
    (s.departs e after).regs.cause &&& c = c := by
  rw [State.departs_eq]
  refine State.pass_cause _ _ ?_
  simp only [State.onMatcher_regs, State.setCause_regs, State.onReceiver_regs, State.cutFilling_regs]
  exact cause_kept _ h

/-- The pass of a departure leaves a slot that the cut has left not QUEUED. -/
theorem State.departs_store_slot {n : Nat} (h : ∀ f, (s.cutFilling e).store.slot n ≠ .queued f) :
    (s.departs e after).store.slot n = (s.cutFilling e).store.slot n := by
  rw [State.departs_eq]
  exact (State.pass_slot (by simpa using h)).trans (by simp)

theorem State.departs_free {f : Filling} (h : (s.receiver e).filling = some f)
    (slot : (s.store.slot f.slot).isFilling = true ∨ s.store.slot f.slot = .free) :
    (s.departs e after).store.slot f.slot = .free := by
  have cut := State.cutFilling_free h slot
  rw [State.departs_store_slot _ _ _ (by simp [cut]), cut]

/-- A departure leaves a slot that is not QUEUED as it is, or frees it. -/
theorem State.departs_slot {n : Nat} (h : ∀ f, s.store.slot n ≠ .queued f) :
    (s.departs e after).store.slot n = s.store.slot n ∨ (s.departs e after).store.slot n = .free := by
  obtain same | free := s.cutFilling_slot e n
  · rw [State.departs_store_slot _ _ _ (by rw [same]; exact h)]
    exact .inl same
  · rw [State.departs_store_slot _ _ _ (by simp [free])]
    exact .inr free

theorem PairMatcher.leftLock_take (m : PairMatcher) : m.leftLock.take = m.take := by
  unfold PairMatcher.leftLock; split <;> rfl

theorem State.departs_of_not_closing (h : s.matcher.take ≠ .closing) :
    (s.departs e after).matcher.take = s.matcher.take ∧ (s.departs e after).writer = s.writer ∧
    (s.departs e after).reader = s.reader := by
  obtain ⟨matcher, writer, reader⟩ := s.cutFilling_of_not_closing e h
  have kept := State.pass_of_not_closing
    (s := (((s.cutFilling e).onReceiver e after).setCause .link).onMatcher PairMatcher.leftLock)
    (by simpa [PairMatcher.leftLock_take, matcher] using h)
  simpa [State.departs_eq, State.tellLeft, PairMatcher.leftLock_take, matcher, writer, reader] using kept

/-- A departure touches capture, matching and causes alone. -/
theorem State.departs_onlyCapture : OnlyCapture e s (s.departs e after) := by
  have kept := s.departs_of_not_closing e after
  rw [State.departs_eq] at kept ⊢
  unfold State.tellLeft at kept ⊢
  exact
    { pending := by simp, straps := by simp, settings := by simp, other := by simp, mem := by simp, pace := by simp
      leftLens := by simp, rightLens := by simp, rig := by simp, delivery := by simp
      writer := fun h => (kept h).2.1, reader := fun h => (kept h).2.2 }

end

end Sys2Proof.Machine
end

section
/-! SUPPORT. Row positions, frame units and silence: what each does in each sync state (R2, R6 to R9, R15). -/

namespace Sys2Proof.Machine

/-- A change of sync state from anything but FRAME_LOCK changes the receiver alone. -/
theorem State.changeSync_stays {s : State} {e : Eye} (h : (s.receiver e).sync ≠ .frameLock)
    (g : Receiver → Receiver) : s.changeSync e g = s.onReceiver e g := if_neg h

/-- A receiver that places units is not OFF. -/
theorem Receiver.places_iff (r : Receiver) : r.places = true ↔
    (r.sync = .verify ∨ r.sync = .rowLock ∨ r.sync = .frameLock) ∧ r.rowLength.isSome = true := by
  unfold Receiver.places
  cases r.sync <;> simp

theorem Receiver.on_of_places {r : Receiver} (placed : r.places = true) : r.sync ≠ .off := by
  obtain ⟨h | h | h, -⟩ := (Receiver.places_iff r).1 placed <;> rw [h] <;> decide

/-! ### Row positions -/

section
variable {s : State} {e : Eye} {mark : BitVec 64} {body : List Byte} {length : Nat}

/-- A row position of the row length in force is taken (R2). -/
theorem exec_rowPosition_of_known (on : (s.receiver e).sync ≠ .off) (known : (s.receiver e).rowLength = some length)
    (whole : body.length + 8 = length) (row : isOpener mark = false) :
    exec (.rowPosition e mark body) s = .next (s.takeRow e length mark body) := by
  refine congrArg _ ((State.unlessOff_on on _ _).trans ?_)
  unfold State.rowAtPosition
  rw [known]
  exact if_pos ⟨whole, row⟩

theorem State.takeRow_of_locked (locked : (s.receiver e).sync = .rowLock ∨ (s.receiver e).sync = .frameLock) :
    s.takeRow e length mark body = s.lockedRow e length mark body := by
  unfold State.takeRow
  obtain h | h := locked <;> rw [h]

theorem State.takeRow_of_verify (h : (s.receiver e).sync = .verify) :
    s.takeRow e length mark body = s.onReceiver e fun r => r.verifyRow length mark := by
  unfold State.takeRow
  rw [h]

/-- In HUNT nothing is placed. -/
theorem State.rowAtPosition_of_hunt (h : (s.receiver e).sync = .hunt) : s.rowAtPosition e mark body = s := by
  unfold State.rowAtPosition State.takeRow
  rw [h]
  split
  · rfl
  · exact ite_self s

/-- Alignment is lost by a bad mark that is the second bad one of the four newest (R6). -/
def Receiver.loses (r : Receiver) (mark : BitVec 64) : Prop :=
  r.judge mark = false ∧ lostAlignment (pushHistory (r.judge mark) r.history) = true

theorem lostAlignment_iff (h : List Bool) : lostAlignment h = true ↔ 2 ≤ (h.take 4).count false := by
  have bad : (fun g : Bool => !g) = (· == false) := by funext g; cases g <;> rfl
  rw [lostAlignment, decide_eq_true_iff, bad]
  rfl

theorem State.lockedRow_of_loses (lost : (s.receiver e).loses mark) : s.lockedRow e length mark body =
    s.changeSync e (Receiver.enterHunt ((s.receiver e).nextPosition + examined mark)) := by
  obtain ⟨bad, aligned⟩ := lost
  refine if_pos ?_
  rw [aligned, bad]
  rfl

/-- A row position that keeps alignment is placed. -/
theorem State.lockedRow_of_not_filling (kept : ¬ (s.receiver e).loses mark) (idle : (s.receiver e).filling = none) :
    s.lockedRow e length mark body =
      s.onReceiver e fun r => r.placeRow ((s.receiver e).judge mark) length := by
  unfold State.lockedRow
  dsimp only
  rw [if_neg fun lost => kept (by simpa [Receiver.loses] using lost), idle]

/-- A row position that keeps alignment is placed, and is a row of the frame that is filling. -/
theorem State.lockedRow_of_filling {f : Filling} (kept : ¬ (s.receiver e).loses mark)
    (filling : (s.receiver e).filling = some f) : s.lockedRow e length mark body =
      (s.onReceiver e fun r => r.placeRow ((s.receiver e).judge mark) length).fillRow e f
        ((s.receiver e).judge mark) body := by
  unfold State.lockedRow
  dsimp only
  rw [if_neg fun lost => kept (by simpa [Receiver.loses] using lost), filling]

end

/-! ### Frame units -/

/-- Where the receiver places no unit, a head, a tail and a fill have no effect. -/
theorem exec_units_of_not_placed {s : State} {e : Eye} (on : (s.receiver e).sync ≠ .off)
    (none : (s.receiver e).rowLength = none ∨ (s.receiver e).sync = .hunt) (head : BitVec 192) (tail : BitVec 128)
    (fill : BitVec 64) : exec (.frameHead e head) s = .next s ∧ exec (.frameTail e tail) s = .next s ∧
      exec (.fillUnit e fill) s = .next s := by
  have unplaced : (s.receiver e).places = false := by
    rw [Bool.eq_false_iff, Ne, Receiver.places_iff]
    obtain h | h := none <;> simp [h]
  refine ⟨?_, ?_, ?_⟩ <;>
    exact congrArg _ ((State.unlessOff_on on _ _).trans (if_neg (by simp [unplaced])))

section
variable {s : State} {e : Eye} (placed : (s.receiver e).places = true)
include placed

theorem exec_frameHead_of_placed {head : BitVec 192} (opener : head.extractLsb' 0 32 = 0xC3A5F01E#32) :
    exec (.frameHead e head) s = .next (s.takeHead e head) :=
  congrArg _ ((State.unlessOff_on (Receiver.on_of_places placed) _ _).trans
    (if_pos (by simpa [placed, leading] using opener)))

theorem exec_frameTail_of_placed {tail : BitVec 128} (opener : tail.extractLsb' 0 32 = 0xC3A5F02D#32) :
    exec (.frameTail e tail) s = .next (s.takeTail e tail) :=
  congrArg _ ((State.unlessOff_on (Receiver.on_of_places placed) _ _).trans
    (if_pos (by simpa [placed, leading] using opener)))

theorem exec_fillUnit_of_placed {fill : BitVec 64} (opener : fill.extractLsb' 0 32 = 0xC3A5F03C#32) :
    exec (.fillUnit e fill) s = .next (s.onReceiver e fun r => r.passUnit 8) :=
  congrArg _ ((State.unlessOff_on (Receiver.on_of_places placed) _ _).trans
    (if_pos (by simpa [placed, leading] using opener)))

end

theorem bne_eq_decide_ne {α : Type} [DecidableEq α] (x y : α) : (x != y) = decide (x ≠ y) := by
  rw [Bool.eq_iff_iff, bne_iff_ne, decide_eq_true_iff]

/-- The flaws found at a Frame Tail (R17). -/
theorem Filling.flaws_tail (f : Filling) (tail : BitVec 128) : f.flaws (some tail) =
    { tailMissing := false
      rowCount := decide (tailRows tail ≠ f.format.height ∨ f.rowsReceived ≠ f.format.height)
      frameCheck := decide (tailCheck tail ≠ f.frameCheck) } := by
  rw [Filling.flaws, bne_eq_decide_ne, bne_eq_decide_ne, bne_eq_decide_ne, Bool.decide_or]

/-- A frame completes, its eye's receiver being `r`: its record with its flaws and missing rows, its slot QUEUED at the
tail of its eye's queue, the counters, and the matcher's pass (R17). -/
theorem State.completeFrame_eq {s : State} {f : Filling} {frame : FrameRecord}
    (filling : s.store.slot f.slot = .filling frame) (e : Eye) (r : Receiver) (tail : Option (BitVec 128)) :
    (s.onReceiver e fun _ => r).completeFrame e f tail = State.dispose
      { (s.onReceiver e fun _ => { r with filling := none, counters := f.completionCount tail r.counters }) with
        store := ({ s.store with slots := s.store.slots.set f.slot (.queued (f.completed tail frame)) } :
          FrameStore).onQueue e (· ++ [f.slot]) } := by
  unfold State.completeFrame
  rw [State.onReceiver_store, filling]
  cases e <;> rfl

theorem State.completeIfFilling_of_filling {s : State} {e : Eye} {f : Filling}
    (filling : (s.receiver e).filling = some f) (tail : Option (BitVec 128)) :
    s.completeIfFilling e tail = s.completeFrame e f tail := by
  unfold State.completeIfFilling
  rw [filling]

theorem State.completeIfFilling_of_not_filling {s : State} {e : Eye} (none : (s.receiver e).filling = none)
    (tail : Option (BitVec 128)) : s.completeIfFilling e tail = s := by
  unfold State.completeIfFilling
  rw [none]

/-! ### Silence (R7) -/

theorem Receiver.tickOwed_self {r : Receiver} (clear : r.tickOwed = false) : { r with tickOwed := false } = r := by
  cases r
  simp_all

section
variable {s : State} {e : Eye}

/-- A tick below 2 increases the count. -/
theorem State.takeSilenceTick_raises (locked : (s.receiver e).sync = .rowLock ∨ (s.receiver e).sync = .frameLock)
    (first : (s.receiver e).silence = 0) : s.takeSilenceTick e = s.onReceiver e Receiver.raiseSilence := by
  unfold State.takeSilenceTick
  obtain h | h := locked <;> simp [h, first]

/-- The tick that takes the count to 2 moves ROW_LOCK to HUNT. -/
theorem State.takeSilenceTick_rowLock (sync : (s.receiver e).sync = .rowLock) (second : 1 ≤ (s.receiver e).silence) :
    s.takeSilenceTick e = s.onReceiver e (Receiver.enterHunt (s.receiver e).scanFrom) := by
  unfold State.takeSilenceTick
  dsimp only
  rw [sync]
  dsimp only
  rw [if_neg (by omega), State.changeSync_stays (by rw [sync]; decide)]

/-- The tick that takes the count to 2 is a departure from FRAME_LOCK to ROW_LOCK. -/
theorem State.takeSilenceTick_frameLock (sync : (s.receiver e).sync = .frameLock)
    (second : 1 ≤ (s.receiver e).silence) : s.takeSilenceTick e = s.departs e Receiver.enterRowLock := by
  unfold State.takeSilenceTick
  dsimp only
  rw [sync]
  dsimp only
  rw [if_neg (by omega), State.changeSync_departs s e _ sync]

theorem State.takeSilenceTick_of_not_locked
    (out : ¬ ((s.receiver e).sync = .rowLock ∨ (s.receiver e).sync = .frameLock)) : s.takeSilenceTick e = s := by
  unfold State.takeSilenceTick
  cases h : (s.receiver e).sync <;> simp_all

theorem State.takeOwedSilence_owed (owed : (s.receiver e).tickOwed = true) :
    s.takeOwedSilence e = (s.onReceiver e fun r => { r with tickOwed := false }).takeSilenceTick e := if_pos owed

theorem State.takeOwedSilence_clear (clear : (s.receiver e).tickOwed = false) : s.takeOwedSilence e = s :=
  if_neg (by simp [clear])

/-- The tick would expire the count where it takes a locked receiver to 2. -/
theorem Receiver.wouldExpire_iff (r : Receiver) : r.wouldExpire = true ↔
    (r.sync = .rowLock ∨ r.sync = .frameLock) ∧ 1 ≤ r.silence := by
  unfold Receiver.wouldExpire
  cases r.sync <;> simp

/-- A tick taken leaves no tick owed: it changes what is owed nowhere. -/
theorem State.takeSilenceTick_tickOwed (s : State) (e : Eye) :
    ((s.takeSilenceTick e).receiver e).tickOwed = (s.receiver e).tickOwed := by
  by_cases locked : (s.receiver e).sync = .rowLock ∨ (s.receiver e).sync = .frameLock
  · by_cases first : (s.receiver e).silence = 0
    · rw [State.takeSilenceTick_raises locked first, State.onReceiver_receiver]
      rfl
    · have second : 1 ≤ (s.receiver e).silence := Nat.one_le_iff_ne_zero.2 first
      obtain sync | sync := locked
      · rw [State.takeSilenceTick_rowLock sync second, State.onReceiver_receiver]
        rfl
      · rw [State.takeSilenceTick_frameLock sync second, State.departs_receiver]
        rfl
  · rw [State.takeSilenceTick_of_not_locked locked]

theorem State.takeOwedSilence_tickOwed (s : State) (e : Eye) :
    ((s.takeOwedSilence e).receiver e).tickOwed = false := by
  cases owed : (s.receiver e).tickOwed with
  | false => rw [State.takeOwedSilence_clear owed, owed]
  | true => rw [State.takeOwedSilence_owed owed, State.takeSilenceTick_tickOwed, State.onReceiver_receiver]

end

end Sys2Proof.Machine

open Sys2Proof Sys2Proof.Machine

/-- Settles O20: the judgment of a row position is the one of the statement, and a loss of alignment in FRAME_LOCK is a
departure. -/
theorem rowsJudged : Obligations.RowsJudged := by
  unfold Obligations.RowsJudged
  refine ⟨?_, ?_, ?_⟩
  · intro e mark body length s r row expected isPattern good history lost hunting known whole opener
    have judged : r.judge mark = good := by
      rw [Bool.eq_iff_iff, Receiver.judge_iff, decide_eq_true_iff]
      rfl
    have loses : r.loses mark ↔ lost := by
      rw [Receiver.loses, judged, lostAlignment_iff]
      rfl
    have examinedBytes : examined mark = if isPattern then 8 else 4 := by simp only [examined, isMark_iff]; rfl
    have locked : r.sync = .rowLock ∨ r.sync = .frameLock →
        exec (.rowPosition e mark body) s = .next (s.lockedRow e length mark body) := fun sync => by
      have on : r.sync ≠ .off := by obtain h | h := sync <;> rw [h] <;> decide
      rw [exec_rowPosition_of_known on known whole opener, State.takeRow_of_locked sync]
    have hunts : Receiver.enterHunt (r.nextPosition + examined mark) = hunting := by
      rw [examinedBytes]
      rfl
    refine ⟨fun sync kept idle => ?_, fun isLost sync => ?_, fun isLost sync => ?_, fun sync => ?_⟩
    · rw [locked sync, State.lockedRow_of_not_filling (mt loses.1 kept) idle]
      refine congrArg _ (State.onReceiver_congr ?_)
      rw [show (s.receiver e).judge mark = good from judged]
      rfl
    · rw [locked (.inl sync), State.lockedRow_of_loses (loses.2 isLost),
        State.changeSync_stays (by rw [show (s.receiver e).sync = _ from sync]; decide)]
      exact congrArg _ (congrArg _ hunts)
    · rw [locked (.inr sync), State.lockedRow_of_loses (loses.2 isLost), State.changeSync_departs s e _ sync]
      exact congrArg _ (congrArg _ hunts)
    · have on : r.sync ≠ .off := by rw [sync]; decide
      rw [exec_rowPosition_of_known on known whole opener, State.takeRow_of_verify sync,
        exec_verifyMark_of_verify sync]
      exact congrArg _ (State.onReceiver_congr (Receiver.verify_row known rfl opener).symm)
  · intro e mark body s
    refine ⟨fun hunt => ?_, fun off => congrArg _ (State.unlessOff_off off _ _)⟩
    have on : (s.receiver e).sync ≠ .off := by rw [hunt]; decide
    exact congrArg _ ((State.unlessOff_on on _ _).trans (State.rowAtPosition_of_hunt hunt))
  · intro e after s r t
    exact ⟨s.departs_onlyCapture e after, s.departs_cause e after, s.departs_receiver e after,
      fun f filling slot => s.departs_free e after filling (.inl slot)⟩

/-- Settles O24: a tail in FRAME_LOCK completes the frame that is filling, and every other unit is passed. -/
theorem unitsAtFrameEnd : Obligations.UnitsAtFrameEnd := by
  unfold Obligations.UnitsAtFrameEnd
  refine ⟨?_, ?_⟩
  · intro e tail fill s r
    exact ⟨fun on none => (exec_units_of_not_placed on none 0#192 tail fill).2,
      fun off => ⟨congrArg _ (State.unlessOff_off off _ _), congrArg _ (State.unlessOff_off off _ _)⟩⟩
  · intro e tail fill length s r passed known sync
    have placed : (s.receiver e).places = true :=
      (Receiver.places_iff _).2 ⟨sync, by rw [show (s.receiver e).rowLength = _ from known]; rfl⟩
    refine ⟨fun opener skipped => ?_, ?_, fun opener => exec_fillUnit_of_placed placed opener⟩
    · have skips : s.takeTail e tail = s.onReceiver e fun r => r.passBoundary 16 := by
        unfold State.takeTail
        dsimp only
        obtain out | none := skipped
        · exact if_neg out
        · rw [State.completeIfFilling_of_not_filling (by simpa [Receiver.passBoundary, Receiver.passUnit] using none)]
          exact ite_self _
      rw [exec_frameTail_of_placed placed opener, skips]
      exact congrArg _ (State.onReceiver_congr rfl)
    · intro f frame missing flaws opener locked filling slot counters completed
      have flawed : f.flaws (some tail) = flaws := by
        rw [Filling.flaws_tail]
        rfl
      have takes : s.takeTail e tail = (s.onReceiver e fun _ => passed).completeFrame e f (some tail) := by
        unfold State.takeTail
        rw [State.onReceiver_congr (g := fun _ => passed) rfl]
        dsimp only
        rw [if_pos locked, State.completeIfFilling_of_filling (f := f) (by simpa [passed] using filling)]
      rw [exec_frameTail_of_placed placed opener, takes, State.completeFrame_eq slot]
      simp only [Filling.completionCount, Filling.completed, flawed]
      rfl

/-- Settles O25: the tick that a receiver owes, and the tick it takes, are one operation. -/
theorem silenceExpires : Obligations.SilenceExpires := by
  unfold Obligations.SilenceExpires
  intro e s r locked
  have owes : ∀ {u : State}, (u.receiver e).tickOwed = true → exec (.silenceExpiry e) u =
      .next ((u.onReceiver e fun r => { r with tickOwed := false }).takeSilenceTick e) := fun owed =>
    congrArg _ (State.takeOwedSilence_owed owed)
  have takes : ∀ {u : State}, (u.receiver e).tickOwed = false →
      u.observe (.linkReceiver e) = u.takeSilenceTick e := fun clear =>
    congrArg (State.takeSilenceTick · e) (State.takeOwedSilence_clear clear)
  have later : ∀ {u : State}, (u.receiver e).tickOwed = false → u.observeLater (.linkReceiver e) =
      if (u.receiver e).wouldExpire then u.onReceiver e fun r => { r with tickOwed := true }
      else u.takeSilenceTick e := fun {u} clear => by
    unfold State.observeLater State.linkTickLater
    dsimp only
    rw [State.takeOwedSilence_clear clear]
  refine ⟨fun owed second sync => ?_, fun owed second sync => ?_, fun owed first sync => ?_, fun owed out => ?_,
    fun clear => congrArg _ (State.takeOwedSilence_clear clear), fun clear => ?_, fun clear below => ?_,
    fun clear second sync => ?_, fun u taken => ?_⟩
  · rw [owes owed, State.takeSilenceTick_rowLock (by simpa using sync) (by simpa using second),
      State.onReceiver_onReceiver]
    exact congrArg _ (State.onReceiver_congr (by simp [Receiver.enterHunt]))
  · rw [owes owed, State.takeSilenceTick_frameLock (by simpa using sync) (by simpa using second)]
    rfl
  · rw [owes owed, State.takeSilenceTick_raises (by simpa using sync) (by simpa using first),
      State.onReceiver_onReceiver]
    exact congrArg _ (State.onReceiver_congr (by simpa [Receiver.raiseSilence] using first))
  · rw [owes owed, State.takeSilenceTick_of_not_locked (by rw [State.onReceiver_receiver]; exact out)]
  · rw [owes (by simp), State.onReceiver_onReceiver, takes clear, State.onReceiver_self]
    exact Receiver.tickOwed_self clear
  · rw [later clear, takes clear, if_neg]
    rw [Receiver.wouldExpire_iff]
    rintro ⟨sync, second⟩
    obtain first | out := below
    · exact absurd first (Nat.one_le_iff_ne_zero.1 second)
    · exact out sync
  · rw [later clear, if_pos ((Receiver.wouldExpire_iff _).2 ⟨sync, second⟩)]
  · obtain rfl : s.takeOwedSilence e = u := Host.Outcome.next.inj taken
    have clear := s.takeOwedSilence_tickOwed e
    refine ⟨(takes clear).symm, ?_⟩
    rw [later clear]
    rfl

end

section
/-! SUPPORT. Frame Heads: the head check, what a head does in each sync state, and the frame arrival (R1, R8, R9, R12 to
R14). -/

namespace Sys2Proof.Machine

/-- The sum of the first words of a unit, modulo 65,536 (R1). -/
theorem unitSum_toNat {w : Nat} (u : BitVec w) (n : Nat) : (unitSum u n).toNat =
    ((List.range n).map fun i => (u.extractLsb' (16 * i) 16).toNat).sum % 65536 := by
  induction n with
  | zero => rfl
  | succ n ih =>
    rw [unitSum, BitVec.toNat_add, ih, List.range_succ, List.map_append, List.sum_append, List.map_singleton,
      List.sum_singleton]
    exact Nat.mod_add_mod _ _ _

theorem headCheckGood_iff (head : BitVec 192) : headCheckGood head = true ↔
    (head.extractLsb' 176 16).toNat =
      ((List.range 11).map fun i => (head.extractLsb' (16 * i) 16).toNat).sum % 65536 := by
  rw [headCheckGood, beq_iff_eq, ← BitVec.toNat_inj, unitSum_toNat]

/-! ### A head in each sync state -/

section
variable {s : State} {e : Eye} {head : BitVec 192}

theorem State.takeHead_of_verify (sync : (s.receiver e).sync = .verify) :
    s.takeHead e head = s.onReceiver e fun r => r.passBoundary 24 := by
  unfold State.takeHead
  rw [sync]

theorem State.takeHead_of_rowLock (sync : (s.receiver e).sync = .rowLock) :
    s.takeHead e head = (s.onReceiver e fun r => r.passBoundary 24).headInRowLock e head := by
  unfold State.takeHead
  rw [sync]

theorem State.takeHead_of_frameLock (sync : (s.receiver e).sync = .frameLock) :
    s.takeHead e head = (s.onReceiver e fun r => r.passBoundary 24).headInFrameLock e head := by
  unfold State.takeHead
  rw [sync]

/-- The receiver that takes a good head in FRAME_LOCK: the unit passed, the silence count 0 (R7, R9). -/
def Receiver.takesHead (r : Receiver) : Receiver := { r.passBoundary 24 with silence := 0 }

/-- A good head in FRAME_LOCK completes a filling frame, and then arrives (R9). -/
theorem exec_frameHead_of_frameLock (opener : head.extractLsb' 0 32 = 0xC3A5F01E#32)
    (good : headCheckGood head = true) (sync : (s.receiver e).sync = .frameLock)
    (known : (s.receiver e).rowLength.isSome = true) : exec (.frameHead e head) s =
      .next (((s.onReceiver e fun _ => (s.receiver e).takesHead).completeIfFilling e none).arrival e head) := by
  rw [exec_frameHead_of_placed ((Receiver.places_iff _).2 ⟨.inr (.inr sync), known⟩) opener,
    State.takeHead_of_frameLock sync, State.headInFrameLock, if_pos good, State.onReceiver_onReceiver]
  exact congrArg (fun u : State => Host.Outcome.next ((u.completeIfFilling e none).arrival e head))
    (State.onReceiver_congr rfl)

end

/-- Entry to FRAME_LOCK: the receiver's change, LINK, the matcher's pass, and a waiting reader told whether both links
are in it (R8, R151). -/
theorem State.enterFrameLock_eq (s : State) (e : Eye) :
    let entered := (s.onReceiver e fun r => { r with sync := .frameLock, expectation := none, silence := 0 }).setCause
      .link
    s.enterFrameLock e = entered.pass.onReader
      (CueReader.reportLock · ((s.receiver (otherEye e)).sync == .frameLock)) := by
  unfold State.enterFrameLock
  cases e <;> simp [otherEye]

/-- The flaws of a frame that a Frame Head completes (R17). -/
theorem Filling.flaws_head (f : Filling) : f.flaws none =
    { tailMissing := true, rowCount := decide (f.rowsReceived ≠ f.format.height), frameCheck := false } := by
  rw [Filling.flaws, bne_eq_decide_ne]

/-! ### The frame arrival -/

theorem depthOf_iff (code : Nat) (d : Depth) : depthOf code = some d ↔ code = d.bits := by
  unfold depthOf Depth.bits
  constructor
  · intro h
    (repeat' split at h) <;> cases h <;> assumption
  · rintro rfl
    cases d <;> rfl

/-- The format check: width, height and depth declared, and the row length in force, are those of the setting (R12). -/
theorem formatAgrees_iff (f : FormatSetting) (r : Receiver) (head : BitVec 192) : formatAgrees f r head = true ↔
    headWidth head = f.width ∧ headHeight head = f.height ∧ headDepth head = f.depth.bits ∧
    r.rowLength = some f.linkRow := by
  simp only [formatAgrees, headAgrees, Bool.and_eq_true, beq_iff_eq, depthOf_iff, and_assoc]

/-- The capture stamp is the arrival stamp less the readout latency, and no less than 0 (R14). -/
theorem captureStamp_eq (arrival : Stamp) (latency : Nat) : captureStamp arrival latency =
    if latency ≤ arrival.toNat then BitVec.ofNat 48 (arrival.toNat - latency) else 0#48 := by
  unfold captureStamp
  split
  · rfl
  · rw [Nat.sub_eq_zero_of_le (by omega)]

/-- No slot is granted where the queue holds 8 or no slot is FREE (R13, R24). -/
theorem FrameStore.grant_none {f : FrameStore} {e : Eye}
    (full : 8 ≤ (f.queue e).length ∨ ∀ x ∈ f.slots, x.isFree = false) : f.grant e = none := by
  unfold FrameStore.grant
  obtain queue | slots := full
  · exact if_neg (Nat.not_lt.2 queue)
  · rw [List.findIdx?_eq_none_iff.2 slots]
    exact ite_self _

section
variable (s : State) (e : Eye) (head : BitVec 192) (r : Receiver)

/-- The frame record of an arrival (R13, R14, R23). -/
def State.arrivalFrame : FrameRecord :=
  newFrame e head (captureStamp s.pace.stamp (headLatency head)) (countGap r head)

/-- A frame arrival at a receiver: refused as a mismatch, or a claim (R12, R13). -/
theorem State.arrival_eq : (s.onReceiver e fun _ => r).arrival e head =
    if formatAgrees s.settings.format r head then
      (s.onReceiver e fun _ => r.arrive head).claim e (s.arrivalFrame e head r)
    else s.onReceiver e fun _ =>
      (r.arrive head).count fun c => { c with mismatches := Counter.inc c.mismatches } := by
  unfold State.arrival
  rw [State.onReceiver_receiver, State.onReceiver_settings, State.onReceiver_onReceiver]
  dsimp only
  rw [State.onReceiver_onReceiver]
  unfold State.now
  rw [State.onReceiver_pace]
  rfl

theorem State.claim_slips {s : State} {e : Eye} (refused : s.store.grant e = none) (frame : FrameRecord) :
    (s.onReceiver e fun _ => r).claim e frame = (s.onReceiver e fun _ =>
      r.count fun c => { c with slips := Counter.inc c.slips }).setCause .slip := by
  unfold State.claim State.slip
  rw [State.onReceiver_store, refused]
  dsimp only
  rw [State.onReceiver_onReceiver]

theorem State.claim_granted {s : State} {e : Eye} {n : Nat} (granted : s.store.grant e = some n)
    (frame : FrameRecord) : (s.onReceiver e fun _ => r).claim e frame = State.closeCheck
      { (s.onReceiver e fun _ => { r with filling := some (s.settings.newFilling e n) }) with
        store := { s.store with slots := s.store.slots.set n (.filling frame) } } := by
  unfold State.claim State.beginFill
  rw [State.onReceiver_store, granted]
  cases e <;> rfl

end

end Sys2Proof.Machine

open Sys2Proof Sys2Proof.Machine

/-- Settles O22: by the head check and the sync state in which the head is taken. -/
theorem headsJudged : Obligations.HeadsJudged := by
  unfold Obligations.HeadsJudged
  refine ⟨headCheckGood_iff, ?_, ?_, ?_, ?_⟩
  · intro e head length s r counted opener bad known
    have places := fun sync => (Receiver.places_iff (s.receiver e)).2
      ⟨sync, by rw [show (s.receiver e).rowLength = _ from known]; rfl⟩
    have counts : (s.onReceiver e fun r => r.passBoundary 24).countBadHead e = s.onReceiver e fun _ => counted := by
      unfold State.countBadHead
      rw [State.onReceiver_onReceiver]
      exact State.onReceiver_congr rfl
    refine ⟨fun sync => ?_, fun sync => ?_⟩
    · rw [exec_frameHead_of_placed (places (.inr (.inl sync))) opener, State.takeHead_of_rowLock sync,
        State.headInRowLock, bad, counts]
      rfl
    · rw [exec_frameHead_of_placed (places (.inr (.inr sync))) opener, State.takeHead_of_frameLock sync,
        State.headInFrameLock, bad, counts]
      exact congrArg _ (State.changeSync_departs _ _ _ (by rw [State.onReceiver_receiver]; exact sync))
  · intro e head length s r entered told opener good sync known
    have placed := (Receiver.places_iff (s.receiver e)).2
      ⟨.inr (.inl sync), by rw [show (s.receiver e).rowLength = _ from known]; rfl⟩
    have enters : (s.onReceiver e fun r => r.passBoundary 24).enterFrameLock e = told := by
      rw [State.enterFrameLock_eq, State.onReceiver_onReceiver, State.onReceiver_other]
      rw [State.onReceiver_congr (g := fun _ => { r with
        sync := .frameLock, silence := 0, expectation := none, boundary := true
        nextPosition := r.nextPosition + 24, scanFrom := r.nextPosition + 24 }) rfl]
      rfl
    rw [exec_frameHead_of_placed placed opener, State.takeHead_of_rowLock sync, State.headInRowLock, if_pos good,
      enters]
  · intro e head length f s r passed opener good sync known filling
    have completes : exec (.frameHead e head) s =
        .next ((State.completeFrame (s.onReceiver e fun _ => passed) e f none).arrival e head) := by
      rw [exec_frameHead_of_frameLock opener good sync (by rw [show (s.receiver e).rowLength = _ from known]; rfl),
        State.completeIfFilling_of_filling (f := f) (by rw [State.onReceiver_receiver]; exact filling)]
      rfl
    refine ⟨completes, fun frame slot => ?_⟩
    rw [completes, State.completeFrame_eq slot]
    simp only [Filling.completionCount, Filling.completed, Filling.flaws_head]
    rfl
  · intro e head s r
    refine ⟨fun on none => (exec_units_of_not_placed on none head 0#128 0#64).1,
      fun off => congrArg _ (State.unlessOff_off off _ _), fun opener sync known => ?_⟩
    rw [exec_frameHead_of_placed ((Receiver.places_iff _).2 ⟨.inl sync, known⟩) opener, State.takeHead_of_verify sync]
    rfl

/-- Settles O23: the head arrives at a receiver that fills no frame, and the arrival is refused or granted. -/
theorem frameArrivals : Obligations.FrameArrivals := by
  unfold Obligations.FrameArrivals
  intro e head length s r count latency gap format agrees frame counters taken opener good sync known none
  have arrives : exec (.frameHead e head) s = .next ((s.onReceiver e fun _ => r.takesHead).arrival e head) := by
    rw [exec_frameHead_of_frameLock opener good sync (by rw [show (s.receiver e).rowLength = _ from known]; rfl),
      State.completeIfFilling_of_not_filling (by rw [State.onReceiver_receiver]; exact none)]
  have formats : formatAgrees format r.takesHead head = true ↔ agrees := by
    rw [formatAgrees_iff]
    have rows : r.takesHead.rowLength = some format.linkRow ↔ length = format.linkRow := by
      rw [show r.takesHead.rowLength = some length from known, Option.some_inj]
    rw [rows]
    rfl
  have record : s.arrivalFrame e head r.takesHead = frame := by
    unfold State.arrivalFrame newFrame
    rw [captureStamp_eq]
    rfl
  refine ⟨fun differs => ?_, fun same full => ?_, fun n same room free => ?_⟩
  · rw [arrives, State.arrival_eq, if_neg (mt formats.1 differs)]
    rfl
  · rw [arrives, State.arrival_eq, if_pos (formats.2 same), State.claim_slips _ (FrameStore.grant_none full)]
    rfl
  · have granted : s.store.grant e = some n := (if_pos room).trans free
    rw [arrives, State.arrival_eq, if_pos (formats.2 same), State.claim_granted _ granted, record]
    rfl

end

section
/-! SUPPORT. Rows of a filling frame: what is stored, the row check, the rows profiled and the band means (R1, R15,
R16). -/

namespace Sys2Proof.Machine

/-! ### Bytes -/

/-- Bytes written are read back. -/
theorem Memory.read_writeBytes_inside : ∀ (bs : List Byte) (m : Memory) (a i : Nat), Memory.wf m = true →
    i < bs.length → Memory.read (Memory.writeBytes m a bs) (a + i) = bs.getD i 0#8 := by
  intro bs
  induction bs with
  | nil => exact fun _ _ _ _ short => absurd short (Nat.not_lt_zero _)
  | cons b bs ih =>
    intro m a i canonical short
    have written := Memory.wf_write a b m canonical
    rw [Memory.writeBytes]
    cases i with
    | zero =>
      refine (Memory.read_writeBytes_outside bs _ _ _ written (.inl (Nat.lt_add_one a))).trans ?_
      rw [Memory.read_write a b m canonical]
      exact if_pos rfl
    | succ i =>
      rw [show a + (i + 1) = a + 1 + i by omega, ih _ _ _ written (Nat.lt_of_succ_lt_succ short)]
      rfl

/-- The word sum of bytes is the sum of their words, modulo 65,536 (R1). -/
theorem wordSum_toNat (k : Nat) : ∀ bs : List Byte, bs.length = 2 * k → (wordSum bs).toNat =
    ((List.range k).map fun i => (byteAt bs (2 * i)).toNat + 256 * (byteAt bs (2 * i + 1)).toNat).sum % 65536 := by
  induction k with
  | zero =>
    intro bs short
    rw [List.length_eq_zero_iff.1 short]
    rfl
  | succ k ih =>
    intro bs long
    match bs with
    | [] | [_] => simp at long; try omega
    | a :: b :: rest =>
      have shorter : rest.length = 2 * k := by simp only [List.length_cons] at long; omega
      rw [wordSum, BitVec.toNat_add, ih rest shorter, BitVec.toNat_ofNat, List.range_succ_eq_map, List.map_cons,
        List.map_map, List.sum_cons]
      exact (Nat.add_mod _ _ _).symm

/-- A field of two bytes. -/
theorem fieldAt_two {bs : List Byte} {i : Nat} (inside : i + 2 ≤ bs.length) :
    fieldAt bs i 2 = (byteAt bs i).toNat + 256 * (byteAt bs (i + 1)).toNat := by
  have first : i < bs.length := by omega
  have second : i + 1 < bs.length := by omega
  unfold fieldAt byteAt
  rw [List.drop_eq_getElem_cons first, List.drop_eq_getElem_cons second, List.getD_eq_getElem _ _ first,
    List.getD_eq_getElem _ _ second]
  exact congrArg (fun x => bs[i].toNat + 256 * x) (Nat.add_zero _)

theorem byteAt_take {bs : List Byte} {n i : Nat} (inside : i < n) : byteAt (bs.take n) i = byteAt bs i := by
  simp [byteAt, List.getD_eq_getElem?_getD, inside]

/-- The row check of a row position is good where its field is the sum of the words before it (R1). -/
theorem rowCheckGood_iff {body : List Byte} {k : Nat} (whole : body.length = 2 * k + 2) :
    rowCheckGood body = true ↔
      (byteAt body (2 * k)).toNat + 256 * (byteAt body (2 * k + 1)).toNat = (wordSum (rowData body)).toNat := by
  have low := (byteAt body (2 * k)).isLt
  have high := (byteAt body (2 * k + 1)).isLt
  rw [rowCheckGood, beq_iff_eq, ← BitVec.toNat_inj, rowCheckSent, BitVec.toNat_ofNat,
    show body.length - 2 = 2 * k by omega, fieldAt_two (by omega), Nat.mod_eq_of_lt (by omega)]

/-! ### The rows that are profiled -/

theorem ProbeSetting.enabled_iff (p : ProbeSetting) : p.enabled = true ↔ 2 ≤ p.rows.length ∧ 1 ≤ p.range := by
  rw [ProbeSetting.enabled, Bool.and_eq_true, decide_eq_true_iff, decide_eq_true_iff]

/-- The rows around a probe row are those within the half-range, below the height. -/
theorem mem_rowsAround (range height p x : Nat) :
    x ∈ rowsAround range height p ↔ x < height ∧ p ≤ x + range ∧ x ≤ p + range := by
  simp only [rowsAround, List.mem_map, List.mem_filter, List.mem_range, Bool.and_eq_true, decide_eq_true_eq]
  constructor
  · rintro ⟨i, ⟨within, low, below⟩, rfl⟩
    omega
  · rintro ⟨below, low, high⟩
    exact ⟨x + range - p, by omega, by omega⟩

theorem mem_profiledRows_left (p : ProbeSetting) (height x : Nat) :
    x ∈ profiledRows p height .left ↔ (2 ≤ p.rows.length ∧ 1 ≤ p.range) ∧ x ∈ p.rows ∧ x < height := by
  rw [← p.enabled_iff, profiledRows]
  cases p.enabled <;> simp

theorem mem_profiledRows_right (p : ProbeSetting) (height x : Nat) :
    x ∈ profiledRows p height .right ↔ (2 ≤ p.rows.length ∧ 1 ≤ p.range) ∧ x < height ∧
      ∃ q ∈ p.rows, q ≤ x + p.range ∧ x ≤ q + p.range := by
  rw [← p.enabled_iff, profiledRows]
  cases p.enabled with
  | false => simp
  | true =>
    simp only [if_true, List.mem_flatMap, mem_rowsAround, true_and]
    constructor
    · rintro ⟨q, probe, below, near⟩
      exact ⟨below, q, probe, near⟩
    · rintro ⟨below, q, probe, near⟩
      exact ⟨q, probe, below, near⟩

/-! ### The band means -/

theorem bandMeans_length (pixels : List Nat) (band : Nat) : (bandMeans pixels band).length = 32 := by
  simp [bandMeans]

theorem bandMeans_getElem? (pixels : List Nat) (band : Nat) {i : Nat} (h : i < 32) :
    (bandMeans pixels band)[i]? = some (((pixels.drop (i * band)).take band).sum / band) := by
  simp [bandMeans, h]

theorem profileSamples_length (f : FormatSetting) (o : Orientation) (data : List Byte) :
    (profileSamples f o data).length = 32 := by
  unfold profileSamples
  dsimp only
  split
  · rw [List.length_reverse, bandMeans_length]
  · exact bandMeans_length _ _

/-- A profile is the band means, from the last where the orientation flips columns (R16). -/
theorem profileSamples_getElem? (f : FormatSetting) (o : Orientation) (data : List Byte) {i : Nat} (h : i < 32) :
    (profileSamples f o data)[i]? =
      (bandMeans (unpack f.depth data) (f.width / 32))[if o.flipsColumns then 31 - i else i]? := by
  unfold profileSamples
  dsimp only
  split
  · rw [List.getElem?_reverse (by rw [bandMeans_length]; exact h), bandMeans_length]
  · rfl

/-! ### The row stored -/

theorem FrameStore.slot_lt {f : FrameStore} {n : Nat} (taken : f.slot n ≠ .free) : n < f.slots.length := by
  by_contra out
  exact taken (List.getD_eq_default _ _ (Nat.not_lt.1 out))

section
variable {s : State} {e : Eye} {f : Filling} {frame : FrameRecord}

/-- A row written: the frame record of its slot, and slot memory at its row index (R15, R21). -/
theorem Filling.writeRow_eq (slot : s.store.slot f.slot = .filling frame) (data : List Byte) (damaged : Bool) :
    f.writeRow data damaged s.store = { s.store with
      slots := s.store.slots.set f.slot (.filling (f.recordRow frame data damaged))
      mem := Memory.writeBytes s.store.mem (rowAddress f.format f.slot f.rowsReceived) data } := by
  unfold Filling.writeRow
  rw [slot]
  rfl

/-- A row below the height joins its slot's memory and its frame record, and a damaged one is counted (R15, R16). -/
theorem State.fillRow_below (slot : s.store.slot f.slot = .filling frame) (below : f.rowsReceived < f.format.height)
    (r : Receiver) (good : Bool) (body : List Byte) :
    (s.onReceiver e fun _ => r).fillRow e f good body =
      { (s.onReceiver e fun _ => { r with
          filling := some (f.afterRow (rowData body))
          counters := { r.counters with
            damagedRows := if !good || !rowCheckGood body then Counter.inc r.counters.damagedRows
              else r.counters.damagedRows } }) with
        store := { s.store with
          slots := s.store.slots.set f.slot
            (.filling (f.recordRow frame (rowData body) (!good || !rowCheckGood body)))
          mem := Memory.writeBytes s.store.mem (rowAddress f.format f.slot f.rowsReceived) (rowData body) } } := by
  have counts : (if !good || !rowCheckGood body then r.counters.damage 1 else r.counters) = { r.counters with
      damagedRows := if !good || !rowCheckGood body then Counter.inc r.counters.damagedRows
        else r.counters.damagedRows } := by split <;> rfl
  unfold State.fillRow
  dsimp only
  rw [if_pos below, ← counts, ← Filling.writeRow_eq slot]
  cases e <;> rfl

/-- A row at or above the height is counted alone. -/
theorem State.fillRow_above (above : f.format.height ≤ f.rowsReceived) (r : Receiver) (good : Bool)
    (body : List Byte) : (s.onReceiver e fun _ => r).fillRow e f good body =
      s.onReceiver e fun _ => { r with filling := some (f.afterRow (rowData body)) } := by
  unfold State.fillRow
  dsimp only
  rw [if_neg (Nat.not_lt.2 above), State.onReceiver_onReceiver]

end

end Sys2Proof.Machine

open Sys2Proof Sys2Proof.Machine

/-- Settles O21: the row joins slot memory and the frame record, and the operands are read as the statement says. -/
theorem rowStored : Obligations.RowStored := by
  unfold Obligations.RowStored
  refine ⟨?_, ?_, ?_, ?_, ?_⟩
  · intro e mark body length f frame s r good data address damaged output placed sync known whole row aligned filling
      slot canonical
    have on : r.sync ≠ .off := by rw [sync]; decide
    have kept : ¬ r.loses mark := by
      rintro ⟨bad, lost⟩
      obtain isGood | keeps := aligned
      · exact absurd (isGood.symm.trans bad) (by decide)
      · exact absurd (keeps.symm.trans lost) (by decide)
    have fills : exec (.rowPosition e mark body) s =
        .next ((s.onReceiver e fun _ => r.placeRow good length).fillRow e f good body) := by
      rw [exec_rowPosition_of_known on known whole row, State.takeRow_of_locked (.inr sync),
        State.lockedRow_of_filling kept filling]
      exact congrArg (fun u : State => Host.Outcome.next (u.fillRow e f good body)) (State.onReceiver_congr rfl)
    refine ⟨fun below => ?_, fun above => ?_⟩
    · have inPool : f.slot < s.store.slots.length := FrameStore.slot_lt (by rw [slot]; exact Slot.noConfusion)
      refine ⟨_, fills.trans (congrArg _ (State.fillRow_below slot below _ _ _)),
        Memory.wf_writeBytes _ _ _ canonical, fun i h => Memory.read_writeBytes_inside _ _ _ _ canonical h,
        fun a out => Memory.read_writeBytes_outside _ _ _ _ canonical out, ?_,
        fun n other => FrameStore.slot_setSlot_ne _ _ (Ne.symm other), rfl⟩
      refine (FrameStore.slot_setSlot_self _ _ inPool).trans ?_
      simp only [Filling.recordRow, List.contains_iff_mem]
      rfl
    · rw [fills, State.fillRow_above above]
      rfl
  · intro body even long word words
    have whole : body.length = 2 * words + 2 := by omega
    have sum : (wordSum (rowData body)).toNat = ((List.range words).map word).sum % 65536 := by
      rw [wordSum_toNat words _ (by rw [rowData, List.length_take]; omega)]
      refine congrArg (fun l : List Nat => l.sum % 65536) (List.map_congr_left fun i inside => ?_)
      have below := List.mem_range.1 inside
      rw [rowData, byteAt_take (by omega), byteAt_take (by omega)]
    exact ⟨sum, by rw [rowCheckGood_iff whole, sum]⟩
  · intro o height i
    cases o <;> simp [Orientation.row, Orientation.flipsRows]
  · intro p height x enabled
    exact ⟨mem_profiledRows_left p height x, mem_profiledRows_right p height x⟩
  · intro f o data pixels band
    refine ⟨profileSamples_length f o data, fun i h => ?_⟩
    rw [profileSamples_getElem? f o data h, bandMeans_getElem? _ _ (by split <;> omega)]
    cases o <;> simp [Orientation.flipsColumns] <;> rfl

end

section
/-! SUPPORT. One receiver told of a LINK cue (R3, R10, R174): what it becomes, and what else changes. -/

namespace Sys2Proof.Machine

theorem covers_iff (p : Option EyeChoice) (e : Eye) :
    covers p e = true ↔ p = none ∨ p = some .both ∨ p = some (.only e) := by
  unfold covers
  split <;> simp

/-- The receiver that LINK leaves: HUNT from OFF where enabled, OFF where disabled, a frame being filled cut where it
leaves FRAME_LOCK; any other receiver stays. -/
def Receiver.linked (r : Receiver) (enable : Bool) : Receiver :=
  if r.sync = .off then (if enable then r.enterHunt r.scanFrom else r)
  else if enable then r
  else if r.sync = .frameLock then r.afterCut.enterOff
  else r.enterOff

theorem Receiver.linked_false_sync (r : Receiver) : (r.linked false).sync = .off := by
  unfold Receiver.linked
  split
  · assumption
  · rw [if_neg (by decide)]
    split <;> rfl

theorem Receiver.linked_false_dropped {r : Receiver} (on : r.sync ≠ .off) :
    (r.linked false).rowLength = none ∧ (r.linked false).history = [] ∧ (r.linked false).expectation = none := by
  unfold Receiver.linked
  rw [if_neg on, if_neg (by decide)]
  split <;> exact ⟨rfl, rfl, rfl⟩

section
variable (s : State) (e : Eye)

theorem State.linkOff_eq : s.linkOff e =
    if (s.receiver e).sync = .off then s
    else if (s.receiver e).sync = .frameLock then s.departs e Receiver.enterOff
    else s.onReceiver e Receiver.enterOff := by
  unfold State.linkOff
  split
  · rfl
  · split
    · next locked => exact State.changeSync_departs s e _ locked
    · next out => exact State.changeSync_stays out _

/-- A change of one eye's receiver touches capture alone. -/
theorem State.onReceiver_onlyCapture (f : Receiver → Receiver) : OnlyCapture e s (s.onReceiver e f) := by
  constructor <;> simp

theorem OnlyCapture.refl : OnlyCapture e s s := by
  constructor <;> simp

end

section
variable (s : State) (p : Option EyeChoice) (enable : Bool) (e : Eye)

/-- What LINK tells a receiver, by the eye named, the setting and its sync state (R3, R10). -/
theorem State.tellLink_eq : s.tellLink p enable e =
    if ¬ covers p e = true then s
    else if (s.receiver e).sync = .off then
      (if enable then s.onReceiver e fun r => r.enterHunt r.scanFrom else s)
    else if enable then s
    else if (s.receiver e).sync = .frameLock then s.departs e Receiver.enterOff
    else s.onReceiver e Receiver.enterOff := by
  unfold State.tellLink State.linkOn
  rw [State.linkOff_eq]
  by_cases named : covers p e = true <;> by_cases off : (s.receiver e).sync = .off <;> cases enable <;>
    simp [named, off]

/-- A receiver told of LINK stays, changes alone, or departs from FRAME_LOCK. -/
theorem State.tellLink_cases : s.tellLink p enable e = s ∨ (∃ f, s.tellLink p enable e = s.onReceiver e f) ∨
    s.tellLink p enable e = s.departs e Receiver.enterOff := by
  rw [State.tellLink_eq]
  split
  · exact .inl rfl
  · split
    · split
      · exact .inr (.inl ⟨_, rfl⟩)
      · exact .inl rfl
    · split
      · exact .inl rfl
      · split
        · exact .inr (.inr rfl)
        · exact .inr (.inl ⟨_, rfl⟩)

theorem State.tellLink_onlyCapture : OnlyCapture e s (s.tellLink p enable e) := by
  obtain same | ⟨f, changed⟩ | departed := s.tellLink_cases p enable e
  · rw [same]; exact OnlyCapture.refl s e
  · rw [changed]; exact s.onReceiver_onlyCapture e f
  · rw [departed]; exact s.departs_onlyCapture e _

theorem State.tellLink_take (h : s.matcher.take ≠ .closing) :
    (s.tellLink p enable e).matcher.take = s.matcher.take := by
  obtain same | ⟨f, changed⟩ | departed := s.tellLink_cases p enable e
  · rw [same]
  · rw [changed, State.onReceiver_matcher]
  · rw [departed]; exact (s.departs_of_not_closing e _ h).1

theorem State.tellLink_cause_kept (c : BitVec 9) (h : s.regs.cause &&& c = c) :
    (s.tellLink p enable e).regs.cause &&& c = c := by
  obtain same | ⟨f, changed⟩ | departed := s.tellLink_cases p enable e
  · rw [same]; exact h
  · rw [changed, State.onReceiver_regs]; exact h
  · rw [departed]; exact s.departs_cause_kept e _ c h

/-- A slot that is not QUEUED stays as it is, or goes FREE. -/
theorem State.tellLink_slot {n : Nat} (h : ∀ f, s.store.slot n ≠ .queued f) :
    (s.tellLink p enable e).store.slot n = s.store.slot n ∨ (s.tellLink p enable e).store.slot n = .free := by
  obtain same | ⟨f, changed⟩ | departed := s.tellLink_cases p enable e
  · exact .inl (by rw [same])
  · exact .inl (by rw [changed, State.onReceiver_store])
  · rw [departed]; exact s.departs_slot e _ h

theorem State.tellLink_receiver : (s.tellLink p enable e).receiver e =
    if covers p e = true then (s.receiver e).linked enable else s.receiver e := by
  rw [State.tellLink_eq]
  unfold Receiver.linked
  by_cases named : covers p e = true
  · rw [if_neg (not_not.2 named), if_pos named]
    split
    · split
      · exact s.onReceiver_receiver e _
      · rfl
    · split
      · rfl
      · split
        · exact s.departs_receiver e _
        · exact s.onReceiver_receiver e _
  · rw [if_pos named, if_neg named]

variable {s p e}

/-- A link disabled in FRAME_LOCK departs. -/
theorem State.tellLink_departs (named : covers p e = true) (sync : (s.receiver e).sync = .frameLock) :
    s.tellLink p false e = s.departs e Receiver.enterOff := by
  rw [State.tellLink, if_pos named, if_neg (by decide), State.linkOff_eq, if_neg (by rw [sync]; decide), if_pos sync]

end

/-- LINK told to both receivers, LEFT first (R174). -/
def State.tellBoth (s : State) (p : Option EyeChoice) (enable : Bool) : State :=
  (s.tellLink p enable .left).tellLink p enable .right

section
variable (s : State) (p : Option EyeChoice) (enable : Bool)

theorem State.tellBoth_receiver (e : Eye) : (s.tellBoth p enable).receiver e =
    if covers p e = true then (s.receiver e).linked enable else s.receiver e := by
  have left := (s.tellLink_onlyCapture p enable .left).other
  have right := ((s.tellLink p enable .left).tellLink_onlyCapture p enable .right).other
  unfold State.tellBoth
  cases e with
  | left => exact right.trans (s.tellLink_receiver p enable .left)
  | right =>
    rw [State.tellLink_receiver]
    exact congrArg (fun r : Receiver => if covers p .right = true then r.linked enable else r) left

variable {s p}

/-- A link disabled in FRAME_LOCK: LINK is set, and a frame being filled has given its slot back. -/
theorem State.tellBoth_departs {e : Eye} (named : covers p e = true) (sync : (s.receiver e).sync = .frameLock) :
    (s.tellBoth p false).regs.cause &&& 0x008#9 = 0x008#9 ∧
    ∀ f, (s.receiver e).filling = some f → (s.store.slot f.slot).isFilling = true →
      (s.tellBoth p false).store.slot f.slot = .free := by
  have unqueued : ∀ {x : Slot}, x.isFilling = true → ∀ f, x ≠ .queued f := fun filling f same => by
    rw [same] at filling
    cases filling
  unfold State.tellBoth
  cases e with
  | left =>
    rw [State.tellLink_departs named sync]
    refine ⟨State.tellLink_cause_kept _ _ _ _ _ (State.departs_cause _ _ _), fun f filling slot => ?_⟩
    have free := s.departs_free .left Receiver.enterOff filling (.inl slot)
    obtain same | freed := State.tellLink_slot (s.departs .left Receiver.enterOff) p false .right (n := f.slot)
      (by simp [free])
    · exact same.trans free
    · exact freed
  | right =>
    have other : (s.tellLink p false .left).receiver .right = s.receiver .right :=
      (s.tellLink_onlyCapture p false .left).other
    rw [State.tellLink_departs named (by rw [other]; exact sync)]
    refine ⟨State.departs_cause _ _ _, fun f filling slot =>
      State.departs_free _ .right _ (by rw [other]; exact filling) ?_⟩
    obtain same | freed := s.tellLink_slot p false .left (unqueued slot)
    · exact .inl (by rw [same]; exact slot)
    · exact .inr freed

end

end Sys2Proof.Machine

open Sys2Proof Sys2Proof.Machine

/-- Settles O49: each receiver is told as the statement says, and what LEFT is told leaves RIGHT's part as it was. -/
theorem linkCueExecutes : Obligations.LinkCueExecutes := by
  unfold Obligations.LinkCueExecutes
  intro enable s ready named hunting off told set u
  have named_iff : ∀ e, covers s.reader.eyePrefix e = true ↔ named e := covers_iff s.reader.eyePrefix
  have tells : ∀ e x, told e x = x.tellLink s.reader.eyePrefix enable e := fun e x => by
    rw [State.tellLink_eq]
    simp only [named_iff, told]
    split <;> rfl
  have setting : (s.onSettings fun x => x.linkBy s.reader.eyePrefix enable).clearPrefix = set := by
    simp only [State.onSettings, Settings.linkBy, named_iff]
    rfl
  have both : u = set.tellBoth s.reader.eyePrefix enable := by
    unfold State.tellBoth
    rw [← tells, ← tells]
  have left := set.tellLink_onlyCapture s.reader.eyePrefix enable .left
  have right := (set.tellLink s.reader.eyePrefix enable .left).tellLink_onlyCapture s.reader.eyePrefix enable .right
  have receivers : ∀ e, u.receiver e = if covers s.reader.eyePrefix e = true then (s.receiver e).linked enable
      else s.receiver e := fun e => by
    rw [both, State.tellBoth_receiver]
    cases e <;> rfl
  have receiver_named : ∀ e, named e → u.receiver e = (s.receiver e).linked enable := fun e here =>
    (receivers e).trans (if_pos ((named_iff e).2 here))
  have departs : ∀ e, named e → enable = false → (s.receiver e).sync = .frameLock →
      u.regs.cause &&& 0x008#9 = 0x008#9 ∧ ∀ f, (s.receiver e).filling = some f →
        (s.store.slot f.slot).isFilling = true → u.store.slot f.slot = .free := fun e here disabled sync => by
    have same : set.receiver e = s.receiver e := by cases e <;> rfl
    have told := State.tellBoth_departs (s := set) ((named_iff e).2 here) (by rw [same]; exact sync)
    rw [same, ← disabled, ← both] at told
    exact told
  refine ⟨?_, ?_, ?_, fun notClosing => ?_, ?_, ?_, ?_, ?_, ?_, fun e => ⟨?_, ?_, ?_, ?_, ?_, ?_, ?_⟩⟩
  · have performed : exec .link s = .next (s.effectLink enable) := congrArg _ (State.cueCommand_ready ready)
    rw [performed, State.effectLink, setting, both]
    rfl
  · rw [both]; exact right.settings.trans left.settings
  · rw [both]; exact right.delivery.trans left.delivery
  · have still := set.tellLink_take s.reader.eyePrefix enable .left notClosing
    have stillNot : (set.tellLink s.reader.eyePrefix enable .left).matcher.take ≠ .closing := by
      rw [still]; exact notClosing
    rw [both]
    exact ⟨(right.reader stillNot).trans (left.reader notClosing),
      (right.writer stillNot).trans (left.writer notClosing)⟩
  · rw [both]; exact right.pace.trans left.pace
  · rw [both]; exact right.leftLens.trans left.leftLens
  · rw [both]; exact right.rightLens.trans left.rightLens
  · rw [both]; exact right.rig.trans left.rig
  · rw [both]; exact right.mem.trans left.mem
  · exact fun unnamed => (receivers e).trans (if_neg (mt (named_iff e).1 unnamed))
  · intro here enabled sync
    rw [receiver_named e here, enabled]
    simp [Receiver.linked, sync, Receiver.enterHunt]
  · intro here enabled sync
    rw [receiver_named e here, enabled]
    simp [Receiver.linked, sync]
  · intro here disabled
    rw [receiver_named e here, disabled]
    exact Receiver.linked_false_sync _
  · intro here disabled sync
    rw [receiver_named e here, disabled]
    exact Receiver.linked_false_dropped sync
  · intro here disabled sync
    refine ⟨?_, (departs e here disabled sync).1⟩
    rw [receiver_named e here, disabled]
    simp [Receiver.linked, sync, Receiver.enterOff, Receiver.afterCut]
  · exact fun f here disabled sync => (departs e here disabled sync).2 f

end

section
/-! SUPPORT. The acts of a disposal pass: a pair formed with the skew tracker's update (R52, R62, R67, R68), and an
orphan released or entered (R57 to R59). -/

namespace Sys2Proof.Machine

theorem PairMatcher.hasRoom_iff (m : PairMatcher) : m.hasRoom = true ↔ m.table.length < 6 := decide_eq_true_iff

/-! ### The skew tracker -/

/-- The matcher after a pair with skew `d` under a skew limit (R67, R68). -/
def PairMatcher.tracks (m : PairMatcher) (d : Int) (limit : Nat) : PairMatcher :=
  { m with skew := m.nextSkew d, state := .tracking, alarm := nextAlarm m.alarm (m.nextSkew d) limit }

/-- The skew tracker changes the matcher, and beside it the register window and the Bus Port's list alone. -/
theorem State.updateSkew_eq (s : State) (d : Int) : ∃ regs carried, s.updateSkew d =
    { s with matcher := s.matcher.tracks d s.settings.matching.skewLimit, regs := regs, carried := carried } := by
  unfold State.updateSkew State.setCause State.setIrq
  dsimp only
  split
  · split <;> exact ⟨_, _, rfl⟩
  · exact ⟨_, _, rfl⟩

/-- An armed alarm fires past the limit. -/
theorem nextAlarm_of_fires {a : Alarm} {x : Int} {limit : Nat} (h : a = .armed ∧ limit < x.natAbs) :
    nextAlarm a x limit = .fired := by
  obtain ⟨rfl, past⟩ := h
  exact if_pos past

/-- Where it does not fire, the alarm is or stays FIRED above three quarters of the limit alone. -/
theorem nextAlarm_of_not_fires {a : Alarm} {x : Int} {limit : Nat} (h : ¬ (a = .armed ∧ limit < x.natAbs)) :
    nextAlarm a x limit = if a = .fired ∧ limit * 3 < x.natAbs * 4 then .fired else .armed := by
  cases a with
  | armed => exact if_neg fun past => h ⟨rfl, past⟩
  | fired =>
    by_cases past : limit * 3 < x.natAbs * 4
    · rw [if_pos ⟨rfl, past⟩]
      exact if_neg (Nat.not_le.2 past)
    · rw [if_neg fun both => past both.2]
      exact if_pos (Nat.not_lt.1 past)

/-- The skew tracker sets SKEW where the alarm fires, and leaves the register window otherwise (R68). -/
theorem State.updateSkew_regs (s : State) (d : Int) : (s.updateSkew d).regs =
    if s.matcher.alarm = .armed ∧ s.settings.matching.skewLimit < (s.matcher.nextSkew d).natAbs then
      { s.regs with cause := s.regs.cause ||| 0x020#9 }
    else s.regs := by
  have fires : (s.matcher.alarm = .armed ∧
      nextAlarm s.matcher.alarm (s.matcher.nextSkew d) s.settings.matching.skewLimit = .fired) ↔
      s.matcher.alarm = .armed ∧ s.settings.matching.skewLimit < (s.matcher.nextSkew d).natAbs :=
    and_congr_right fun armed => by rw [armed]; simp [nextAlarm]
  unfold State.updateSkew
  simp only [fires]
  split
  · rw [State.setCause_regs]; rfl
  · rfl

/-! ### Heads disposed of -/

/-- Two heads within the pair window form their entry or wait for room (R52, R62). -/
theorem State.examine_within {s : State} {l r : Nat × FrameRecord} (left : s.head .left = some l)
    (right : s.head .right = some r) (leftWaits : s.matcher.leftMark.expired = false)
    (rightWaits : s.matcher.rightMark.expired = false)
    (low : -(s.settings.matching.window : Int) ≤ skewOf l.2 r.2)
    (high : skewOf l.2 r.2 ≤ s.settings.matching.window) :
    s.examine = if s.matcher.hasRoom then some (s.formPair l r) else none := by
  unfold State.examine State.bothHeads State.compareHeads
  rw [left, right]
  dsimp only
  rw [leftWaits, rightWaits, if_neg Bool.false_ne_true, if_neg Bool.false_ne_true, if_neg (Int.not_lt.2 low),
    if_neg (Int.not_lt.2 high)]

/-- An orphan is released where it is outside the take or the policy is DROP (R57). -/
theorem State.disposeOrphan_released {s : State} {x : Nat × FrameRecord}
    (h : s.matcher.member x.2.captureStamp = false ∨ s.settings.matching.policy = .drop) (e : Eye) :
    s.disposeOrphan e x = some (s.releaseOrphan e x) := by
  refine if_neg fun kept => ?_
  rw [Bool.and_eq_true, bne_iff_ne] at kept
  obtain outside | drop := h
  · rw [outside] at kept
    exact absurd kept.1 Bool.false_ne_true
  · exact kept.2 drop

/-- An orphan inside the take, under SINGLE or DOUBLE, forms its entry or waits for room (R58, R59). -/
theorem State.disposeOrphan_kept {s : State} {x : Nat × FrameRecord}
    (inside : s.matcher.member x.2.captureStamp = true) (keep : s.settings.matching.policy ≠ .drop) (e : Eye) :
    s.disposeOrphan e x = if s.matcher.hasRoom then some (s.formOrphan e x) else none := by
  refine if_pos ?_
  rw [Bool.and_eq_true, bne_iff_ne]
  exact ⟨inside, keep⟩

end Sys2Proof.Machine

open Sys2Proof Sys2Proof.Machine

/-- Settles O26: the pass forms the pair where the table has room, and the skew tracker then changes what the statement
names. -/
theorem pairsFormed : Obligations.PairsFormed := by
  unfold Obligations.PairsFormed
  intro l r s d m member entry left right leftWaits rightWaits low high formed skew limit fires
  have examined := State.examine_within left right leftWaits rightWaits low high
  have forms : s.formPair l r = formed.updateSkew d := by
    have count : (if entry.disposition = .deliver then 0 else m.droppedSince) =
        if member then 0 else m.droppedSince := by
      cases h : member <;> simp [entry, h]
    refine congrArg (State.updateSkew · d) ?_
    simp only [formed, ← count]
    rfl
  have regs := formed.updateSkew_regs d
  obtain ⟨window, carried, tracked⟩ := formed.updateSkew_eq d
  refine ⟨fun full => ?_, fun room => ⟨formed.updateSkew d, ?_, rfl, ?_⟩⟩
  · rw [examined, if_neg (mt m.hasRoom_iff.1 (Nat.not_lt.2 full))]
  · rw [examined, if_pos (m.hasRoom_iff.2 room), forms]
  · rw [tracked] at regs ⊢
    refine ⟨rfl, fun alarm => ⟨nextAlarm_of_fires alarm, ?_⟩, fun still => ⟨?_, nextAlarm_of_not_fires still⟩,
      rfl, rfl, rfl, rfl, rfl, rfl, rfl, rfl, rfl, rfl, rfl, rfl, rfl, rfl, rfl, rfl, rfl, rfl, rfl, rfl, rfl, rfl,
      rfl, rfl, rfl⟩
    · exact congrArg RegisterWindow.cause (regs.trans (if_pos alarm))
    · exact regs.trans (if_neg still)

/-- Settles O27: by membership and policy the orphan is released or kept, and by the room of the table a kept one forms
its entry or waits. -/
theorem orphansDisposed : Obligations.OrphansDisposed := by
  unfold Obligations.OrphansDisposed
  intro e n f s m inside lens eye entry
  refine ⟨fun released => ?_, fun member keep room => ?_, fun member keep full => ?_⟩
  · rw [State.disposeOrphan_released released]
    cases e <;> rfl
  · rw [State.disposeOrphan_kept member keep, if_pos (m.hasRoom_iff.2 room)]
    cases e <;> rfl
  · rw [State.disposeOrphan_kept member keep, if_neg (mt m.hasRoom_iff.1 (Nat.not_lt.2 full))]

end

section
/-! SUPPORT. The moves of the Frame Store (R22 to R33): the claims on its slots, and the rows written to it. Every
command is a sequence of them, so what every move keeps every step keeps. -/

namespace Sys2Proof.Machine

/-! ### Single claims on the store -/

section
variable (f : FrameStore)

@[simp] theorem FrameStore.setSlot_queue (n : Nat) (x : Slot) (e : Eye) : (f.setSlot n x).queue e = f.queue e := by
  cases e <;> rfl

@[simp] theorem FrameStore.setSlot_mem (n : Nat) (x : Slot) : (f.setSlot n x).mem = f.mem := rfl

@[simp] theorem FrameStore.setSlot_length (n : Nat) (x : Slot) : (f.setSlot n x).slots.length = f.slots.length :=
  List.length_set

@[simp] theorem FrameStore.onQueue_length (e : Eye) (g : List Nat → List Nat) :
    (f.onQueue e g).slots.length = f.slots.length := by cases e <;> rfl

theorem FrameStore.onQueue_queue (e : Eye) (g : List Nat → List Nat) (d : Eye) :
    (f.onQueue e g).queue d = if d = e then g (f.queue e) else f.queue d := by cases e <;> cases d <;> rfl

/-- A slot given a state, in the pool or freed. -/
theorem FrameStore.setSlot_slot {n : Nat} {x : Slot} (inside : n < f.slots.length ∨ x = .free) (m : Nat) :
    (f.setSlot n x).slot m = if m = n then x else f.slot m := by
  split
  · next same =>
    subst same
    obtain inside | rfl := inside
    · exact f.slot_setSlot_self x inside
    · exact f.slot_setSlot_free m
  · next other => exact f.slot_setSlot_ne x (Ne.symm other)

@[simp] theorem FrameStore.freeIf_queue (p : Slot → Bool) (n : Nat) (e : Eye) :
    (f.freeIf p n).queue e = f.queue e := by
  unfold FrameStore.freeIf; split <;> simp

@[simp] theorem FrameStore.freeIf_mem (p : Slot → Bool) (n : Nat) : (f.freeIf p n).mem = f.mem := by
  unfold FrameStore.freeIf; split <;> rfl

@[simp] theorem FrameStore.freeIf_length (p : Slot → Bool) (n : Nat) :
    (f.freeIf p n).slots.length = f.slots.length := by
  unfold FrameStore.freeIf; split <;> simp

theorem FrameStore.freeIf_slot (p : Slot → Bool) (n m : Nat) :
    (f.freeIf p n).slot m = if m = n ∧ p (f.slot m) = true then .free else f.slot m := by
  unfold FrameStore.freeIf
  split
  · next required =>
    rw [f.setSlot_slot (.inr rfl)]
    by_cases same : m = n
    · rw [if_pos same, if_pos ⟨same, same ▸ required⟩]
    · rw [if_neg same, if_neg fun h => same h.1]
  · next other => exact (if_neg (by rintro ⟨rfl, required⟩; exact other required)).symm

end

/-- A cut claim on a slot that is not FILLING is not carried out (R22). -/
theorem FrameStore.cut_of_not_filling {f : FrameStore} {n : Nat} (h : ∀ frame, f.slot n ≠ .filling frame) :
    f.cut n = f := by
  refine if_neg fun filling => ?_
  cases slot : f.slot n with
  | filling frame => exact h frame slot
  | free | queued _ | held _ => rw [slot] at filling; cases filling

/-! ### The slots of a removed entry (R30) -/

section
variable (f : FrameStore) (ns : List Nat)

@[simp] theorem FrameStore.releaseAll_queue (e : Eye) : (f.releaseAll ns).queue e = f.queue e :=
  List.foldlRecOn (motive := fun g : FrameStore => g.queue e = f.queue e) ns _ rfl fun _ h _ _ =>
    (FrameStore.freeIf_queue _ _ _ _).trans h

@[simp] theorem FrameStore.releaseAll_mem : (f.releaseAll ns).mem = f.mem :=
  List.foldlRecOn (motive := fun g : FrameStore => g.mem = f.mem) ns _ rfl fun _ h _ _ =>
    (FrameStore.freeIf_mem _ _ _).trans h

@[simp] theorem FrameStore.releaseAll_length : (f.releaseAll ns).slots.length = f.slots.length :=
  List.foldlRecOn (motive := fun g : FrameStore => g.slots.length = f.slots.length) ns _ rfl fun _ h _ _ =>
    (FrameStore.freeIf_length _ _ _).trans h

end

theorem FrameStore.releaseAll_slot (ns : List Nat) (m : Nat) : ∀ f : FrameStore,
    (f.releaseAll ns).slot m = if m ∈ ns ∧ (f.slot m).isHeld = true then .free else f.slot m := by
  induction ns with
  | nil => exact fun f => (if_neg fun h => List.not_mem_nil h.1).symm
  | cons n ns ih =>
    intro f
    rw [FrameStore.releaseAll, List.foldl_cons, ← FrameStore.releaseAll, ih, FrameStore.release, f.freeIf_slot]
    by_cases freed : m = n ∧ (f.slot m).isHeld = true
    · rw [if_pos freed, ite_self, if_pos ⟨freed.1 ▸ List.mem_cons_self, freed.2⟩]
    · rw [if_neg freed]
      refine if_congr ?_ rfl rfl
      rw [List.mem_cons]
      tauto

/-! ### Rows written (R15) -/

section
variable (f : Filling) (data : List Byte) (damaged : Bool) (st : FrameStore)

/-- A row written changes nothing where its slot is not FILLING; otherwise the slot stays FILLING for its eye. -/
theorem Filling.writeRow_cases : f.writeRow data damaged st = st ∨
    ∃ frame, st.slot f.slot = .filling frame ∧ f.writeRow data damaged st =
      FrameStore.setSlot { st with mem := Memory.writeBytes st.mem (rowAddress f.format f.slot f.rowsReceived) data }
        f.slot (.filling (f.recordRow frame data damaged)) := by
  unfold Filling.writeRow
  dsimp only
  split
  · next frame slot => exact .inr ⟨frame, slot, rfl⟩
  · exact .inl rfl

@[simp] theorem Filling.writeRow_queue (e : Eye) : (f.writeRow data damaged st).queue e = st.queue e := by
  obtain same | ⟨frame, -, written⟩ := f.writeRow_cases data damaged st
  · rw [same]
  · rw [written, FrameStore.setSlot_queue]
    cases e <;> rfl

end

/-! ### The moves -/

/-- The slot number of the frame that an eye's receiver fills. -/
def State.fills (s : State) (e : Eye) : Option Nat := (s.receiver e).filling.map (·.slot)

/-- A receiver fills a frame in FRAME_LOCK alone (R13). -/
def State.FillsLocked (s : State) : Prop :=
  ∀ e, (s.receiver e).filling.isSome → (s.receiver e).sync = .frameLock

/-- No claim on the store: its slots, queues and memory stay, with the slots of the entries and of the frames being
filled, and no receiver that fills a frame leaves FRAME_LOCK. -/
structure State.Quiet (s t : State) : Prop where
  straps : t.straps = s.straps
  slots : t.store.slots = s.store.slots
  queue : ∀ e, t.store.queue e = s.store.queue e
  mem : t.store.mem = s.store.mem
  entries : t.entrySlots = s.entrySlots
  fills : ∀ e, t.fills e = s.fills e
  locked : ∀ e, (s.receiver e).filling.isSome → (s.receiver e).sync = .frameLock →
    (t.receiver e).sync = .frameLock

/-- A flush or a reset (R32, R36): every slot FREE, no frame queued, entered or being filled. -/
structure State.Cleared (s t : State) : Prop where
  slots : ∃ n, t.store.slots = List.replicate n .free ∧
    (n = t.straps.poolSize ∨ n = s.store.slots.length ∧ t.straps = s.straps)
  queue : ∀ e, t.store.queue e = []
  mem : t.store.mem = s.store.mem ∨ t.store.mem = []
  table : t.matcher.table = []
  filling : ∀ e, (t.receiver e).filling = none

/-- An entry removed from the pair table, and its slots released (R30). -/
def State.without (s : State) (x : Entry) : State :=
  (s.onMatcher fun m => { m with table := m.table.erase x }).onStore (FrameStore.releaseAll · x.slots)

/-- What moves of the Frame Store make of a state `s`. A frame is claimed by a receiver in FRAME_LOCK that fills none,
if the receivers of `s` fill frames in FRAME_LOCK alone. -/
inductive State.Moves (s : State) : State → Prop where
  | start : Moves s s
  | quiet {t u : State} (h : Moves s t) (q : t.Quiet u) : Moves s u
  | act {t u : State} (h : Moves s t) (a : t.Act u) : Moves s u
  | cut {t : State} (h : Moves s t) (e : Eye) (f : Filling) (filling : (t.receiver e).filling = some f) :
      Moves s ((t.onStore (FrameStore.cut · f.slot)).onReceiver e fun r => { r with filling := none })
  | claim {t : State} (h : Moves s t) (e : Eye) (f : Filling) (frame : FrameRecord) (eye : frame.eye = e)
      (granted : t.store.grant e = some f.slot) (sync : (t.receiver e).sync = .frameLock)
      (vacant : s.FillsLocked → (t.receiver e).filling = none) :
      Moves s ((t.onStore fun st => st.setSlot f.slot (.filling frame)).onReceiver e fun r =>
        { r with filling := some f })
  | row {t : State} (h : Moves s t) (f : Filling) (data : List Byte) (damaged : Bool) :
      Moves s (t.onStore (f.writeRow data damaged))
  | complete {t : State} (h : Moves s t) (e : Eye) (f : Filling) (frame done : FrameRecord)
      (filling : (t.receiver e).filling = some f) (slot : t.store.slot f.slot = .filling frame)
      (eye : done.eye = frame.eye) :
      Moves s ((t.onStore fun st => st.complete e f.slot done).onReceiver e fun r => { r with filling := none })
  | remove {t : State} (h : Moves s t) (x : Entry) (entered : x ∈ t.matcher.table) :
      Moves s (t.without x)
  | clear {t u : State} (h : Moves s t) (c : t.Cleared u) : Moves s u

/-! ### What an act of a disposal pass does to the store -/

theorem State.onReceiver_receiver_eq (s : State) (e : Eye) (f : Receiver → Receiver) (d : Eye) :
    (s.onReceiver e f).receiver d = if d = e then f (s.receiver e) else s.receiver d := by
  cases e <;> cases d <;> rfl

/-- A pair formed changes the store, the matcher with its entry, the occasion of the Alignment Unit, and causes. -/
theorem State.formPair_eq (s : State) (l r : Nat × FrameRecord) : ∃ m regs carried,
    m.table = s.matcher.table ++ [s.pairEntry l r] ∧ s.formPair l r = { s with
      store := (s.store.take .left l.1 l.2).take .right r.1 r.2, matcher := m, regs := regs, carried := carried
      align := { s.align with looking := true } } := by
  obtain ⟨regs, carried, tracked⟩ := State.updateSkew_eq _ _
  exact ⟨_, regs, carried, rfl, tracked⟩

theorem State.formOrphan_table (s : State) (e : Eye) (x : Nat × FrameRecord) :
    (s.formOrphan e x).matcher.table = s.matcher.table ++ [s.orphanEntry e x] := by cases e <;> rfl

theorem State.releaseOrphan_table (s : State) (e : Eye) (x : Nat × FrameRecord) :
    (s.releaseOrphan e x).matcher.table = s.matcher.table := by cases e <;> rfl

namespace State.Act
variable {s t : State}

theorem straps (a : s.Act t) : t.straps = s.straps := by
  cases a with
  | pair l r _ _ _ =>
    obtain ⟨_, _, _, -, formed⟩ := s.formPair_eq l r
    rw [formed]
  | orphan e x _ _ => rfl
  | release e x _ => rfl

theorem receiver (a : s.Act t) (e : Eye) : t.receiver e = s.receiver e := by
  cases a with
  | pair l r _ _ _ =>
    obtain ⟨_, _, _, -, formed⟩ := s.formPair_eq l r
    rw [formed]
    cases e <;> rfl
  | orphan d x _ _ => cases e <;> rfl
  | release d x _ => cases e <;> rfl

theorem length (a : s.Act t) : t.store.slots.length = s.store.slots.length := by
  cases a with
  | pair l r _ _ _ =>
    obtain ⟨_, _, _, -, formed⟩ := s.formPair_eq l r
    simp [formed, FrameStore.take]
  | orphan e x _ _ => simp [State.formOrphan, FrameStore.take]
  | release e x _ => simp [State.releaseOrphan, FrameStore.releaseHead]

/-- An act takes heads from the queues, and queues nothing. -/
theorem queue (a : s.Act t) (e : Eye) : (t.store.queue e).Sublist (s.store.queue e) := by
  have taken : ∀ d n x, (((s.store.setSlot n x).onQueue d List.tail).queue e).Sublist (s.store.queue e) :=
    fun d n x => by
      rw [FrameStore.onQueue_queue, FrameStore.setSlot_queue, FrameStore.setSlot_queue]
      split
      · next same => exact same ▸ List.tail_sublist _
      · exact List.Sublist.refl _
  cases a with
  | pair l r _ _ _ =>
    obtain ⟨_, _, _, -, formed⟩ := s.formPair_eq l r
    rw [formed]
    cases e <;> exact List.tail_sublist _
  | orphan d x _ _ => exact taken d x.1 _
  | release d x _ => exact taken d x.1 _

end State.Act

/-! ### The slot memory and the pool -/

theorem Slot.isFree_iff (x : Slot) : x.isFree = true ↔ x = .free := by cases x <;> simp [Slot.isFree]

/-- A granted slot is FREE and in the pool, and its eye's queue holds fewer than 8 (R24). -/
theorem FrameStore.grant_some {f : FrameStore} {e : Eye} {n : Nat} (h : f.grant e = some n) :
    (f.queue e).length < 8 ∧ n < f.slots.length ∧ f.slot n = .free := by
  unfold FrameStore.grant at h
  split at h
  · next room =>
    obtain ⟨inside, free, -⟩ := List.findIdx?_eq_some_iff_getElem.1 h
    refine ⟨room, inside, ?_⟩
    rw [FrameStore.slot, List.getD_eq_getElem _ _ inside]
    exact (Slot.isFree_iff _).1 free
  · cases h

theorem State.poolSound_iff (s : State) : s.poolSound ↔ s.store.slots.length = s.straps.poolSize ∧
    ∀ e, (s.store.queue e).length ≤ 8 ∧ ((s.receiver e).filling.isSome → (s.store.queue e).length ≤ 7) := by
  constructor
  · rintro ⟨size, left, right, fillsLeft, fillsRight⟩
    refine ⟨size, fun e => ?_⟩
    cases e
    · exact ⟨left, fillsLeft⟩
    · exact ⟨right, fillsRight⟩
  · rintro ⟨size, each⟩
    exact ⟨size, (each .left).1, (each .right).1, (each .left).2, (each .right).2⟩

theorem State.fills_isSome (s : State) (e : Eye) : (s.fills e).isSome = (s.receiver e).filling.isSome :=
  Option.isSome_map

/-- The pool stays sound where its size stays, no queue grows, and no receiver begins to fill a frame. -/
theorem State.poolSound_of_le {s t : State} (sound : s.poolSound) (straps : t.straps = s.straps)
    (size : t.store.slots.length = s.store.slots.length)
    (queue : ∀ e, (t.store.queue e).length ≤ (s.store.queue e).length)
    (fills : ∀ e, (t.receiver e).filling.isSome → (s.receiver e).filling.isSome) : t.poolSound := by
  rw [State.poolSound_iff] at sound ⊢
  refine ⟨by rw [size, straps]; exact sound.1, fun e => ?_⟩
  obtain ⟨room, filling⟩ := sound.2 e
  exact ⟨(queue e).trans room, fun some => (queue e).trans (filling (fills e some))⟩

/-- A granted claim finds room for the frame it will queue (R13, R24). -/
theorem State.poolSound_claim {s : State} (sound : s.poolSound) {e : Eye} {n : Nat} (granted : s.store.grant e = some n)
    (x : Slot) (f : Filling) :
    ((s.onStore fun st => st.setSlot n x).onReceiver e fun r => { r with filling := some f }).poolSound := by
  rw [State.poolSound_iff] at sound ⊢
  refine ⟨by simpa using sound.1, fun d => ?_⟩
  obtain ⟨room, fills⟩ := sound.2 d
  rw [State.onReceiver_receiver_eq]
  split
  · next same =>
    have free := (FrameStore.grant_some granted).1
    rw [← same] at free
    exact ⟨by simpa using room, fun _ => by simpa using Nat.le_of_lt_succ free⟩
  · exact ⟨by simpa using room, by simpa using fills⟩

/-- A frame completed takes the room that its eye's queue has kept for it (R25). -/
theorem State.poolSound_complete {s : State} (sound : s.poolSound) {e : Eye}
    (filling : (s.receiver e).filling.isSome) (n : Nat) (done : FrameRecord) :
    ((s.onStore fun st => st.complete e n done).onReceiver e fun r => { r with filling := none }).poolSound := by
  rw [State.poolSound_iff] at sound ⊢
  refine ⟨by simpa [FrameStore.complete] using sound.1, fun d => ?_⟩
  obtain ⟨room, fills⟩ := sound.2 d
  rw [State.onReceiver_receiver_eq, State.onReceiver_store, State.onStore_store, FrameStore.complete,
    FrameStore.onQueue_queue, FrameStore.setSlot_queue, FrameStore.setSlot_queue]
  split
  · next same =>
    subst same
    refine ⟨?_, nofun⟩
    rw [List.length_append, List.length_singleton]
    exact Nat.succ_le_succ (fills filling)
  · exact ⟨room, by simpa using fills⟩

theorem State.poolSound_clear {s t : State} (sound : s.poolSound) (c : s.Cleared t) : t.poolSound := by
  obtain ⟨n, slots, size⟩ := c.slots
  rw [State.poolSound_iff]
  refine ⟨?_, fun e => ?_⟩
  · rw [slots, List.length_replicate]
    obtain anew | ⟨same, straps⟩ := size
    · exact anew
    · rw [same, straps]; exact sound.1
  · rw [c.queue]
    exact ⟨Nat.zero_le 8, fun _ => Nat.zero_le 7⟩

namespace State.Moves
variable {s t : State}

/-- The moves keep the canonical form of slot memory: only a row writes to it. -/
theorem memory (h : s.Moves t) (canonical : Memory.wf s.store.mem = true) : Memory.wf t.store.mem = true := by
  induction h with
  | start => exact canonical
  | quiet _ q ih => rw [q.mem]; exact ih
  | act _ a ih => rw [a.mem]; exact ih
  | cut _ e f _ ih => simpa [FrameStore.cut] using ih
  | claim _ e f frame _ _ _ _ ih => simpa using ih
  | @row t _ f data damaged ih =>
    rw [State.onStore_store]
    obtain same | ⟨frame, -, written⟩ := f.writeRow_cases data damaged t.store
    · rw [same]; exact ih
    · rw [written]; exact Memory.wf_writeBytes _ _ _ ih
  | complete _ e f frame done _ _ _ ih => simpa [FrameStore.complete] using ih
  | remove _ x _ ih => simpa [State.without] using ih
  | clear _ c ih =>
    obtain kept | zero := c.mem
    · rw [kept]; exact ih
    · rw [zero]; rfl

/-- The moves keep the size of the pool and the room of the queues. -/
theorem pool (h : s.Moves t) (sound : s.poolSound) : t.poolSound := by
  induction h with
  | start => exact sound
  | quiet _ q ih =>
    refine State.poolSound_of_le ih q.straps (by rw [q.slots]) (fun e => by rw [q.queue]) fun e => ?_
    rw [← State.fills_isSome, ← State.fills_isSome, q.fills]
    exact id
  | act _ a ih =>
    exact State.poolSound_of_le ih a.straps a.length (fun e => (a.queue e).length_le) fun e => by
      rw [a.receiver]; exact id
  | cut _ e f filling ih =>
    refine State.poolSound_of_le ih (by simp) (by simp [FrameStore.cut]) (by simp [FrameStore.cut]) fun d => ?_
    rw [State.onReceiver_receiver_eq]
    split
    · exact nofun
    · rw [State.onStore_receiver]; exact id
  | claim _ e f frame _ granted _ _ ih => exact State.poolSound_claim ih granted _ f
  | @row t _ f data damaged ih =>
    refine State.poolSound_of_le ih rfl ?_ (fun e => ?_) fun e => by rw [State.onStore_receiver]; exact id
    · obtain same | ⟨_, -, written⟩ := f.writeRow_cases data damaged t.store
      · rw [State.onStore_store, same]
      · rw [State.onStore_store, written, FrameStore.setSlot_length]
    · rw [State.onStore_store, Filling.writeRow_queue]
  | complete _ e f frame done filling _ _ ih =>
    exact State.poolSound_complete ih (by rw [filling]; rfl) f.slot done
  | remove _ x _ ih =>
    exact State.poolSound_of_le ih rfl (by simp [State.without]) (by simp [State.without]) (by simp [State.without])
  | clear _ c ih => exact State.poolSound_clear ih c

end State.Moves

/-! ### One owner for every claimed slot (R22, R24, R27, R28) -/

/-- Who can own a slot: the queue of an eye, the receiver of an eye, or an entry of the pair table. -/
inductive Owner where
  | queue (e : Eye)
  | receiver (e : Eye)
  | entry

/-- The owner that a slot's state names. -/
def Slot.owner : Slot → Option Owner
  | .free => none
  | .filling f => some (.receiver f.eye)
  | .queued f => some (.queue f.eye)
  | .held _ => some .entry

/-- An owner claims a slot by its number. -/
def State.claims (s : State) : Owner → Nat → Prop
  | .queue e, n => n ∈ s.store.queue e
  | .receiver e, n => s.fills e = some n
  | .entry, n => n ∈ s.entrySlots

/-- What the owners claim is what the slots say, each number once, and receivers fill frames in FRAME_LOCK alone. -/
structure State.Owned (s : State) : Prop where
  owner : ∀ o n, s.claims o n ↔ (s.store.slot n).owner = some o
  queuedOnce : ∀ e, (s.store.queue e).Nodup
  enteredOnce : s.entrySlots.Nodup
  locked : s.FillsLocked

theorem Slot.owner_queue (x : Slot) (e : Eye) : x.owner = some (.queue e) ↔ ∃ f, x = .queued f ∧ f.eye = e := by
  cases x <;> simp [Slot.owner]

theorem Slot.owner_receiver (x : Slot) (e : Eye) :
    x.owner = some (.receiver e) ↔ ∃ f, x = .filling f ∧ f.eye = e := by
  cases x <;> simp [Slot.owner]

theorem Slot.owner_entry (x : Slot) : x.owner = some .entry ↔ x.isHeld = true := by
  cases x <;> simp [Slot.owner, Slot.isHeld]

theorem State.fills_some (s : State) (e : Eye) (n : Nat) :
    s.fills e = some n ↔ ∃ f, (s.receiver e).filling = some f ∧ f.slot = n := Option.map_eq_some_iff

/-- The ownership is that of the statements. -/
theorem State.slotsSound_iff (s : State) : s.slotsSound ↔ s.Owned := by
  constructor
  · intro h
    refine ⟨fun o n => ?_, h.once, h.oneEntry, fun e filling => ?_⟩
    · cases o with
      | queue e =>
        rw [Slot.owner_queue]
        exact ⟨h.queued e n, fun ⟨f, slot, eye⟩ => eye ▸ h.inQueue n f slot⟩
      | receiver e =>
        rw [Slot.owner_receiver]
        refine (s.fills_some e n).trans ⟨?_, ?_⟩
        · rintro ⟨f, filling, rfl⟩
          exact (h.filling e f filling).2
        · rintro ⟨x, slot, rfl⟩
          exact h.filled n x slot
      | entry => exact (h.held n).trans (Slot.owner_entry _).symm
    · obtain ⟨f, some_f⟩ := Option.isSome_iff_exists.1 filling
      exact (h.filling e f some_f).1
  · intro h
    have owns : ∀ {o n}, (s.store.slot n).owner = some o → s.claims o n := (h.owner _ _).2
    exact
      { queued := fun e n queued => (Slot.owner_queue _ e).1 ((h.owner (.queue e) n).1 queued)
        once := h.queuedOnce
        inQueue := fun n f slot => owns (o := .queue f.eye) (by rw [slot]; rfl)
        filling := fun e f filling => ⟨h.locked e (by rw [filling]; rfl),
          (Slot.owner_receiver _ e).1 ((h.owner (.receiver e) _).1 ((s.fills_some e _).2 ⟨f, filling, rfl⟩))⟩
        filled := fun n x slot => (s.fills_some _ n).1 (owns (o := .receiver x.eye) (by rw [slot]; rfl))
        held := fun n => (h.owner .entry n).trans (Slot.owner_entry _)
        oneEntry := h.enteredOnce }

theorem State.onReceiver_fills (s : State) (e : Eye) (f : Receiver → Receiver) (d : Eye) :
    (s.onReceiver e f).fills d = if d = e then (f (s.receiver e)).filling.map (·.slot) else s.fills d := by
  unfold State.fills
  rw [State.onReceiver_receiver_eq]
  split <;> rfl

theorem State.FillsLocked.onReceiver {s : State} (h : s.FillsLocked) (e : Eye) {f : Receiver → Receiver}
    (locked : (f (s.receiver e)).filling.isSome → (f (s.receiver e)).sync = .frameLock) :
    (s.onReceiver e f).FillsLocked := fun d => by
  rw [State.onReceiver_receiver_eq]
  split
  · exact locked
  · exact h d

theorem State.FillsLocked.onStore {s : State} (h : s.FillsLocked) (f : FrameStore → FrameStore) :
    (s.onStore f).FillsLocked := fun e => by rw [State.onStore_receiver]; exact h e

@[simp] theorem State.onStore_fills (s : State) (f : FrameStore → FrameStore) (d : Eye) :
    (s.onStore f).fills d = s.fills d := by rw [State.fills, State.onStore_receiver]; rfl

@[simp] theorem State.onStore_entrySlots (s : State) (f : FrameStore → FrameStore) :
    (s.onStore f).entrySlots = s.entrySlots := rfl

@[simp] theorem State.onReceiver_entrySlots (s : State) (e : Eye) (f : Receiver → Receiver) :
    (s.onReceiver e f).entrySlots = s.entrySlots := by cases e <;> rfl

/-- A queue's head is its first number, with the frame record of its QUEUED slot. -/
theorem State.head_iff {s : State} {e : Eye} {x : Nat × FrameRecord} : s.head e = some x ↔
    ∃ rest, s.store.queue e = x.1 :: rest ∧ s.store.slot x.1 = .queued x.2 := by
  constructor
  · intro head
    have slot := State.head_slot head
    unfold State.head at head
    split at head
    · cases head
    · next n rest queue =>
      split at head
      · cases head; exact ⟨rest, queue, slot⟩
      · cases head
  · rintro ⟨rest, queue, slot⟩
    unfold State.head
    rw [queue]
    dsimp only
    rw [slot]

/-- A pair half formed: its left head is entered, and its right head is still queued. -/
def State.halfPair (s : State) (l r : Nat × FrameRecord) : State :=
  (s.onStore fun f => f.take .left l.1 l.2).onMatcher fun m =>
    { m with table := m.table ++ [{ s.pairEntry l r with right := none }] }

theorem State.halfPair_entrySlots (s : State) (l r : Nat × FrameRecord) :
    (s.halfPair l r).entrySlots = s.entrySlots ++ [l.1] := List.flatMap_append

namespace State.Owned
variable {s t : State} {e : Eye} {x : Nat × FrameRecord}

/-- Some slots pass to a new owner, or to none; every other slot keeps its own. -/
theorem reassign (h : s.Owned) (p : Nat → Prop) [DecidablePred p] (new : Option Owner)
    (slot : ∀ m, (t.store.slot m).owner = if p m then new else (s.store.slot m).owner)
    (claims : ∀ o m, t.claims o m ↔ p m ∧ new = some o ∨ ¬ p m ∧ s.claims o m)
    (queuedOnce : ∀ e, (t.store.queue e).Nodup) (enteredOnce : t.entrySlots.Nodup) (locked : t.FillsLocked) :
    t.Owned where
  owner o n := by
    rw [claims, slot, h.owner]
    split
    · next moved => simp [moved]
    · next stays => simp [stays]
  queuedOnce := queuedOnce
  enteredOnce := enteredOnce
  locked := locked

/-- Different owners claim different slots. -/
theorem apart (h : s.Owned) {o p : Owner} {n m : Nat} (claimed : s.claims p n) (other : s.claims o m) (ne : o ≠ p) :
    m ≠ n := by
  rintro rfl
  have same := ((h.owner o m).1 other).symm.trans ((h.owner p m).1 claimed)
  exact ne (Option.some.inj same)

theorem head_claimed (head : s.head e = some x) : s.claims (.queue e) x.1 := by
  obtain ⟨rest, queue, -⟩ := State.head_iff.1 head
  show x.1 ∈ s.store.queue e
  rw [queue]
  exact List.mem_cons_self

/-- A head taken from its queue leaves every other number queued. -/
theorem mem_taken (h : s.Owned) (head : s.head e = some x) (d : Eye) (m : Nat) :
    m ∈ (if d = e then (s.store.queue e).tail else s.store.queue d) ↔ m ≠ x.1 ∧ m ∈ s.store.queue d := by
  split
  · next same =>
    subst same
    obtain ⟨rest, queue, -⟩ := State.head_iff.1 head
    have once := h.queuedOnce d
    rw [queue, List.nodup_cons] at once
    rw [queue, List.tail_cons, List.mem_cons]
    have later : m ∈ rest → m ≠ x.1 := fun queued same => once.1 (same ▸ queued)
    tauto
  · next other =>
    have claimed := head_claimed head
    exact ⟨fun queued => ⟨h.apart (o := .queue d) claimed queued fun same => other (by cases same; rfl), queued⟩,
      And.right⟩

theorem head_inside (head : s.head e = some x) : x.1 < s.store.slots.length :=
  FrameStore.slot_lt (by rw [State.head_slot head]; exact Slot.noConfusion)

/-- A head taken from its queue, and what its slot becomes: FREE, or HELD by the entries' slots added. -/
theorem takeHead (h : s.Owned) (head : s.head e = some x) {y : Slot} {added : List Nat}
    (kind : ∀ o, y.owner = some o → o = .entry) (lists : ∀ m, m ∈ added ↔ m = x.1 ∧ y.owner = some .entry)
    (once : added.Nodup) (store : t.store = (s.store.setSlot x.1 y).onQueue e List.tail)
    (entries : t.entrySlots = s.entrySlots ++ added) (receiver : ∀ d, t.receiver d = s.receiver d) : t.Owned := by
  have queue : ∀ d, t.store.queue d = if d = e then (s.store.queue e).tail else s.store.queue d := fun d => by
    rw [store, FrameStore.onQueue_queue, FrameStore.setSlot_queue, FrameStore.setSlot_queue]
  have fills : ∀ d, t.fills d = s.fills d := fun d => by rw [State.fills, receiver]; rfl
  have claimed := head_claimed head
  have others : ∀ {o m}, s.claims o m → o ≠ .queue e → m ≠ x.1 := fun other ne => h.apart claimed other ne
  refine h.reassign (· = x.1) y.owner (fun m => ?_) (fun o m => ?_) (fun d => ?_) ?_ fun d => ?_
  · rw [store, FrameStore.slot_onQueue, FrameStore.setSlot_slot _ (.inl (head_inside head)), apply_ite Slot.owner]
  · cases o with
    | queue d =>
      have none : y.owner ≠ some (.queue d) := fun same => nomatch kind _ same
      rw [State.claims, queue, h.mem_taken head]
      simp [none, State.claims]
    | receiver d =>
      have none : y.owner ≠ some (.receiver d) := fun same => nomatch kind _ same
      have ne : s.fills d = some m → m ≠ x.1 := fun filled => others (o := .receiver d) filled nofun
      rw [State.claims, State.claims, fills]
      simpa [none] using ne
    | entry =>
      have ne : m ∈ s.entrySlots → m ≠ x.1 := fun entered => others (o := .entry) entered nofun
      rw [State.claims, State.claims, entries, List.mem_append, lists]
      tauto
  · rw [queue]
    split
    · exact (h.queuedOnce e).tail
    · exact h.queuedOnce d
  · rw [entries]
    exact List.nodup_append.2 ⟨h.enteredOnce, once, fun a entered b new same =>
      others (o := .entry) entered nofun (same.trans ((lists b).1 new).1)⟩
  · rw [receiver]; exact h.locked d

/-- A head released (R29). -/
theorem release (h : s.Owned) (head : s.head e = some x) (store : t.store = s.store.releaseHead e x.1)
    (entries : t.entrySlots = s.entrySlots) (receiver : ∀ d, t.receiver d = s.receiver d) : t.Owned :=
  h.takeHead head (y := .free) (added := []) nofun (by simp [Slot.owner]) List.nodup_nil store
    (entries.trans (List.append_nil _).symm) receiver

/-- A head entered into the pair table (R28). -/
theorem enter (h : s.Owned) (head : s.head e = some x) (store : t.store = s.store.take e x.1 x.2)
    (entries : t.entrySlots = s.entrySlots ++ [x.1]) (receiver : ∀ d, t.receiver d = s.receiver d) : t.Owned :=
  h.takeHead head (y := .held x.2) (added := [x.1]) (fun _ same => (Option.some.inj same).symm)
    (by simp [Slot.owner]) (List.nodup_singleton _) store entries receiver

/-- A pair enters its heads one after the other. -/
theorem pair (h : s.Owned) {l r : Nat × FrameRecord} (left : s.head .left = some l) (right : s.head .right = some r) :
    (s.formPair l r).Owned := by
  obtain ⟨m, regs, carried, table, formed⟩ := s.formPair_eq l r
  have apart : l.1 ≠ r.1 := h.apart (o := .queue .left) (head_claimed right) (head_claimed left) nofun
  have half : (s.halfPair l r).Owned :=
    h.enter left rfl (by rw [State.halfPair_entrySlots]) fun d => by cases d <;> rfl
  have next : (s.halfPair l r).head .right = some r := by
    obtain ⟨rest, queue, slot⟩ := State.head_iff.1 right
    refine State.head_iff.2 ⟨rest, queue, ?_⟩
    rw [State.halfPair, State.onMatcher_store, State.onStore_store, FrameStore.take, FrameStore.slot_onQueue,
      FrameStore.slot_setSlot_ne _ _ apart, slot]
  refine half.enter next (by rw [formed]; rfl) ?_ fun d => by rw [formed]; cases d <;> rfl
  rw [formed, State.halfPair_entrySlots, State.entrySlots, table, List.flatMap_append, List.append_assoc]
  rfl

/-- A frame being filled stands in a FILLING slot of its eye. -/
theorem filling_slot (h : s.Owned) {f : Filling} (filling : (s.receiver e).filling = some f) :
    s.claims (.receiver e) f.slot ∧ ∃ frame, s.store.slot f.slot = .filling frame ∧ frame.eye = e := by
  have claimed : s.claims (.receiver e) f.slot := (s.fills_some e _).2 ⟨f, filling, rfl⟩
  exact ⟨claimed, (Slot.owner_receiver _ e).1 ((h.owner _ _).1 claimed)⟩

/-- A receiver's frame passes to its queue, or to no owner; its slot is freed or QUEUED. -/
theorem leave (h : s.Owned) {f : Filling} (filling : (s.receiver e).filling = some f) {y : Slot}
    {added : List Nat}
    (kind : ∀ o, y.owner = some o → o = .queue e) (lists : ∀ m, m ∈ added ↔ m = f.slot ∧ y.owner = some (.queue e))
    (once : added.Nodup) (store : t.store = (s.store.setSlot f.slot y).onQueue e (· ++ added))
    (entries : t.entrySlots = s.entrySlots) (receiver : ∀ d, t.receiver d =
      if d = e then { s.receiver e with filling := none } else s.receiver d) : t.Owned := by
  obtain ⟨claimed, frame, slot, -⟩ := h.filling_slot filling
  have inside : f.slot < s.store.slots.length := FrameStore.slot_lt (by rw [slot]; exact Slot.noConfusion)
  have queue : ∀ d, t.store.queue d = if d = e then s.store.queue e ++ added else s.store.queue d := fun d => by
    rw [store, FrameStore.onQueue_queue, FrameStore.setSlot_queue, FrameStore.setSlot_queue]
  have others : ∀ {o m}, s.claims o m → o ≠ .receiver e → m ≠ f.slot := fun other ne => h.apart claimed other ne
  refine h.reassign (· = f.slot) y.owner (fun m => ?_) (fun o m => ?_) (fun d => ?_) (entries ▸ h.enteredOnce)
    fun d => ?_
  · rw [store, FrameStore.slot_onQueue, FrameStore.setSlot_slot _ (.inl inside), apply_ite Slot.owner]
  · cases o with
    | queue d =>
      have ne : m ∈ s.store.queue d → m ≠ f.slot := fun queued => others (o := .queue d) queued nofun
      rw [State.claims, State.claims, queue]
      split
      · next same =>
        subst same
        rw [List.mem_append, lists]
        tauto
      · next other =>
        have none : y.owner ≠ some (.queue d) := fun same => other (by cases kind _ same; rfl)
        tauto
    | receiver d =>
      have none : y.owner ≠ some (.receiver d) := fun same => nomatch kind _ same
      rw [State.claims, State.claims, State.fills, receiver]
      split
      · next same =>
        have was : s.fills d = some f.slot := by rw [same]; exact claimed
        rw [was]
        simpa [none] using fun ne same => ne same.symm
      · next other =>
        have ne : s.fills d = some m → m ≠ f.slot := fun filled =>
          others (o := .receiver d) filled fun same => other (by cases same; rfl)
        rw [← State.fills]
        tauto
    | entry =>
      have ne : m ∈ s.entrySlots → m ≠ f.slot := fun entered => others (o := .entry) entered nofun
      have none : y.owner ≠ some .entry := fun same => nomatch kind _ same
      rw [State.claims, State.claims, entries]
      tauto
  · rw [queue]
    split
    · exact List.nodup_append.2 ⟨h.queuedOnce e, once, fun a queued b new same =>
        others (o := .queue e) queued nofun (same.trans ((lists b).1 new).1)⟩
    · exact h.queuedOnce d
  · rw [receiver]
    split
    · exact nofun
    · exact h.locked d

/-- A frame cut gives its slot back (R26). -/
theorem cut (h : s.Owned) {f : Filling} (filling : (s.receiver e).filling = some f) :
    ((s.onStore (FrameStore.cut · f.slot)).onReceiver e fun r => { r with filling := none }).Owned := by
  obtain ⟨-, frame, slot, -⟩ := h.filling_slot filling
  refine h.leave filling (y := .free) (added := []) nofun (by simp [Slot.owner]) List.nodup_nil ?_ (by simp)
    fun d => ?_
  · rw [State.onReceiver_store, State.onStore_store, FrameStore.cut, FrameStore.freeIf, slot]
    cases e <;> simp [FrameStore.onQueue, Slot.isFilling] <;> rfl
  · rw [State.onReceiver_receiver_eq, State.onStore_receiver, State.onStore_receiver]

/-- A frame completed joins its eye's queue (R25). -/
theorem complete (h : s.Owned) {f : Filling} {frame done : FrameRecord}
    (filling : (s.receiver e).filling = some f) (slot : s.store.slot f.slot = .filling frame)
    (eye : done.eye = frame.eye) : ((s.onStore fun st => st.complete e f.slot done).onReceiver e fun r =>
      { r with filling := none }).Owned := by
  obtain ⟨-, x, same, owner⟩ := h.filling_slot filling
  have mine : done.eye = e := by
    rw [slot, Slot.filling.injEq] at same
    rw [eye, same, owner]
  have queued : (Slot.queued done).owner = some (.queue e) := by rw [← mine]; rfl
  refine h.leave filling (y := .queued done) (added := [f.slot]) (fun o named => ?_) (fun m => ?_)
    (List.nodup_singleton _) (by simp [FrameStore.complete]) (by simp) fun d => ?_
  · rw [queued] at named
    exact (Option.some.inj named).symm
  · rw [List.mem_singleton, and_iff_left queued]
  · rw [State.onReceiver_receiver_eq, State.onStore_receiver, State.onStore_receiver]

/-- A claim granted to a receiver that fills no frame (R24). -/
theorem claim (h : s.Owned) {f : Filling} {frame : FrameRecord} (eye : frame.eye = e)
    (granted : s.store.grant e = some f.slot) (sync : (s.receiver e).sync = .frameLock)
    (vacant : (s.receiver e).filling = none) :
    ((s.onStore fun st => st.setSlot f.slot (.filling frame)).onReceiver e fun r =>
      { r with filling := some f }).Owned := by
  obtain ⟨-, inside, free⟩ := FrameStore.grant_some granted
  have unclaimed : ∀ {o m}, s.claims o m → m ≠ f.slot := fun {o m} claimed same => by
    have owner := (h.owner o m).1 claimed
    rw [same, free] at owner
    cases owner
  refine h.reassign (· = f.slot) (some (.receiver e)) (fun m => ?_) (fun o m => ?_) (fun d => ?_) ?_ ?_
  · rw [State.onReceiver_store, State.onStore_store, FrameStore.setSlot_slot _ (.inl inside), apply_ite Slot.owner,
      Slot.owner, eye]
  · cases o with
    | queue d =>
      have ne : m ∈ s.store.queue d → m ≠ f.slot := unclaimed (o := .queue d)
      simpa [State.claims] using ne
    | receiver d =>
      have ne : s.fills d = some m → m ≠ f.slot := unclaimed (o := .receiver d)
      rw [State.claims, State.claims, State.onReceiver_fills, State.onStore_fills]
      split
      · next same =>
        have was : s.fills d = none := by rw [same, State.fills, vacant]; rfl
        rw [was]
        simp [same, eq_comm]
      · next other => simpa [Ne.symm other] using ne
    | entry =>
      have ne : m ∈ s.entrySlots → m ≠ f.slot := unclaimed (o := .entry)
      simpa [State.claims] using ne
  · simpa using h.queuedOnce d
  · simpa using h.enteredOnce
  · exact (h.locked.onStore _).onReceiver e fun _ => by simpa using sync

/-- An entry removed gives its slots back (R30). -/
theorem remove (h : s.Owned) {x : Entry} (entered : x ∈ s.matcher.table) : (s.without x).Owned := by
  have parts : s.entrySlots.Perm (x.slots ++ (s.without x).entrySlots) :=
    (List.perm_cons_erase entered).flatMap_right Entry.slots
  obtain ⟨-, restOnce, apart⟩ := List.nodup_append.1 (parts.nodup_iff.1 h.enteredOnce)
  have mine : ∀ {m}, m ∈ x.slots → s.claims .entry m := fun listed =>
    parts.mem_iff.2 (List.mem_append_left _ listed)
  have others : ∀ {o m}, s.claims o m → o ≠ .entry → m ∉ x.slots := fun other ne listed =>
    h.apart (mine listed) other ne rfl
  have queue : ∀ d, (s.without x).store.queue d = s.store.queue d := fun d => by simp [State.without]
  have receiver : ∀ d, (s.without x).receiver d = s.receiver d := fun d => by simp [State.without]
  refine h.reassign (· ∈ x.slots) none (fun m => ?_) (fun o m => ?_) (fun d => ?_) restOnce fun d => ?_
  · rw [State.without, State.onStore_store, State.onMatcher_store, FrameStore.releaseAll_slot]
    by_cases listed : m ∈ x.slots
    · rw [if_pos listed, if_pos ⟨listed, (Slot.owner_entry _).1 ((h.owner .entry m).1 (mine listed))⟩]
      rfl
    · rw [if_neg listed, if_neg fun both => listed both.1]
  · cases o with
    | queue d =>
      have ne : m ∈ s.store.queue d → m ∉ x.slots := fun queued => others (o := .queue d) queued nofun
      rw [State.claims, State.claims, queue]
      simpa using ne
    | receiver d =>
      have ne : s.fills d = some m → m ∉ x.slots := fun filled => others (o := .receiver d) filled nofun
      rw [State.claims, State.claims, State.fills, receiver, ← State.fills]
      simpa using ne
    | entry =>
      have ne : m ∈ (s.without x).entrySlots → m ∉ x.slots := fun later listed => apart m listed m later rfl
      rw [State.claims, State.claims, parts.mem_iff, List.mem_append]
      simp only [reduceCtorEq, and_false, false_or]
      tauto
  · rw [queue]; exact h.queuedOnce d
  · rw [receiver]; exact h.locked d

/-- A cleared store has no owner of anything (R32). -/
theorem clear (c : s.Cleared t) : t.Owned where
  owner o n := by
    obtain ⟨size, slots, -⟩ := c.slots
    have free : t.store.slot n = .free := by
      rw [FrameStore.slot, slots, List.getD_eq_getElem?_getD, List.getElem?_replicate]
      split <;> rfl
    refine iff_of_false ?_ (by rw [free]; exact nofun)
    cases o with
    | queue e => rw [State.claims, c.queue]; exact List.not_mem_nil
    | receiver e => rw [State.claims, State.fills, c.filling]; exact nofun
    | entry => rw [State.claims, State.entrySlots, c.table]; exact List.not_mem_nil
  queuedOnce e := by rw [c.queue]; exact List.nodup_nil
  enteredOnce := by rw [State.entrySlots, c.table]; exact List.nodup_nil
  locked e filling := by rw [c.filling] at filling; cases filling

/-- Where nothing is claimed, the owners stay. -/
theorem quiet (h : s.Owned) (q : s.Quiet t) : t.Owned := by
  refine h.reassign (fun _ => False) none (fun m => ?_) (fun o m => ?_) (fun d => ?_) (q.entries ▸ h.enteredOnce)
    fun d filling => ?_
  · rw [if_neg id, FrameStore.slot, q.slots]; rfl
  · have same : t.claims o m ↔ s.claims o m := by
      cases o with
      | queue d => rw [State.claims, State.claims, q.queue]
      | receiver d => rw [State.claims, State.claims, q.fills]
      | entry => rw [State.claims, State.claims, q.entries]
    simpa using same
  · rw [q.queue]; exact h.queuedOnce d
  · rw [← State.fills_isSome, q.fills, State.fills_isSome] at filling
    exact q.locked d filling (h.locked d filling)

/-- A row written leaves its slot FILLING for the same eye. -/
theorem row (h : s.Owned) (f : Filling) (data : List Byte) (damaged : Bool) :
    (s.onStore (f.writeRow data damaged)).Owned := by
  obtain same | ⟨frame, slot, written⟩ := f.writeRow_cases data damaged s.store
  · unfold State.onStore
    rw [same]
    exact h
  · have inside : f.slot < s.store.slots.length := FrameStore.slot_lt (by rw [slot]; exact Slot.noConfusion)
    refine h.reassign (fun _ => False) none (fun m => ?_) (fun o m => ?_) (fun d => ?_) h.enteredOnce
      (h.locked.onStore _)
    · rw [if_neg id, State.onStore_store, written]
      refine (congrArg Slot.owner (s.store.setSlot_slot (.inl inside) m)).trans ?_
      split
      · next same => rw [same, slot]; rfl
      · rfl
    · cases o with
      | queue d => simp [State.claims]
      | receiver d => simp [State.claims]
      | entry => simp [State.claims]
    · simpa using h.queuedOnce d

/-- An act of a disposal pass moves the heads it takes. -/
theorem act (h : s.Owned) (a : s.Act t) : t.Owned := by
  cases a with
  | pair l r left right _ => exact h.pair left right
  | orphan e x head _ =>
    refine h.enter head rfl ?_ fun d => (State.Act.orphan e x head ‹_›).receiver d
    rw [State.entrySlots, State.formOrphan_table, List.flatMap_append]
    cases e <;> rfl
  | release e x head =>
    refine h.release head rfl ?_ fun d => (State.Act.release e x head).receiver d
    rw [State.entrySlots, State.releaseOrphan_table]
    rfl

end State.Owned

/-- The moves keep every claimed slot at its one owner. -/
theorem State.Moves.owned {s t : State} (h : s.Moves t) (owned : s.Owned) : t.Owned := by
  induction h with
  | start => exact owned
  | quiet _ q ih => exact ih.quiet q
  | act _ a ih => exact ih.act a
  | cut _ e f filling ih => exact ih.cut filling
  | claim _ e f frame eye granted sync vacant ih => exact ih.claim eye granted sync (vacant owned.locked)
  | row _ f data damaged ih => exact ih.row f data damaged
  | complete _ e f frame done filling slot eye ih => exact ih.complete filling slot eye
  | remove _ x entered ih => exact ih.remove entered
  | clear _ c ih => exact State.Owned.clear c

end Sys2Proof.Machine
end

section
/-! SUPPORT. Every command is a sequence of moves of the Frame Store. -/

namespace Sys2Proof.Machine

namespace State.Moves
variable {s t u : State}

/-! ### What moves nothing -/

theorem quietly (h : s.Moves t) (straps : u.straps = t.straps) (store : u.store = t.store)
    (left : u.left = t.left) (right : u.right = t.right) (entries : u.entrySlots = t.entrySlots) : s.Moves u := by
  have receiver : ∀ e, u.receiver e = t.receiver e := fun e => by
    cases e
    · exact left
    · exact right
  exact h.quiet
    { straps, entries
      slots := by rw [store]
      queue := fun e => by rw [store]
      mem := by rw [store]
      fills := fun e => by rw [State.fills, receiver]; rfl
      locked := fun e _ locked => by rw [receiver]; exact locked }

/-- The moves read the straps, the store, the receivers and the entries' slots alone. -/
theorem congr (h : s.Moves t) (straps : u.straps = t.straps := by simp) (store : u.store = t.store := by simp)
    (left : u.left = t.left := by simp) (right : u.right = t.right := by simp)
    (table : u.matcher.table = t.matcher.table := by simp) : s.Moves u :=
  h.quietly straps store left right (by rw [State.entrySlots, table]; rfl)

/-- A change of a receiver that keeps the slot it fills, and that keeps a receiver that fills one in FRAME_LOCK. -/
theorem onReceiver (h : s.Moves t) (e : Eye) {f : Receiver → Receiver}
    (fills : (f (t.receiver e)).filling.map (·.slot) = t.fills e := by rfl)
    (locked : (t.receiver e).filling.isSome → (t.receiver e).sync = .frameLock →
      (f (t.receiver e)).sync = .frameLock := by exact fun _ locked => locked) : s.Moves (t.onReceiver e f) := by
  refine h.quiet { straps := by simp, slots := by simp, queue := by simp, mem := by simp, entries := by simp
                   fills := fun d => ?_, locked := fun d => ?_ }
  · rw [State.onReceiver_fills]
    split
    · next same => rw [fills, same]
    · rfl
  · rw [State.onReceiver_receiver_eq]
    split
    · next same => exact same ▸ locked
    · exact fun _ locked => locked

/-- Outside FRAME_LOCK the sync state of a receiver changes freely. -/
theorem onUnlocked (h : s.Moves t) (e : Eye) {f : Receiver → Receiver} (out : (t.receiver e).sync ≠ .frameLock)
    (fills : (f (t.receiver e)).filling.map (·.slot) = t.fills e := by rfl) : s.Moves (t.onReceiver e f) :=
  h.onReceiver e fills fun _ locked => absurd locked out

theorem onMatcher (h : s.Moves t) {f : PairMatcher → PairMatcher}
    (entries : (f t.matcher).table.flatMap Entry.slots = t.entrySlots := by rfl) : s.Moves (t.onMatcher f) :=
  h.quietly rfl rfl rfl rfl entries

theorem onReader (h : s.Moves t) (f) : s.Moves (t.onReader f) := h.congr
theorem onWriter (h : s.Moves t) (f) : s.Moves (t.onWriter f) := h.congr
theorem onSettings (h : s.Moves t) (f) : s.Moves (t.onSettings f) := h.congr
theorem onRegs (h : s.Moves t) (f) : s.Moves (t.onRegs f) := h.congr
theorem onPace (h : s.Moves t) (f) : s.Moves (t.onPace f) := h.congr
theorem onAlign (h : s.Moves t) (f) : s.Moves (t.onAlign f) := h.congr
theorem onDelivery (h : s.Moves t) (f) : s.Moves (t.onDelivery f) := h.congr
theorem onPort (h : s.Moves t) (p f) : s.Moves (t.onPort p f) := h.congr
theorem setCause (h : s.Moves t) (c) : s.Moves (t.setCause c) := h.congr
theorem setIrq (h : s.Moves t) (c e) : s.Moves (t.setIrq c e) := h.congr
theorem place (h : s.Moves t) (r) : s.Moves (t.place r) := h.congr
theorem carryAll (h : s.Moves t) (ws) : s.Moves (t.carryAll ws) := h.congr rfl rfl rfl rfl rfl

/-! ### The Pair Matcher -/

theorem closeCheck (h : s.Moves t) : s.Moves t.closeCheck := by
  refine h.congr (table := ?_)
  unfold State.closeCheck State.completeClose
  split <;> simp

theorem pass (h : s.Moves t) : s.Moves t.pass :=
  State.pass_induction (fun _ _ h a => h.act a) (fun _ h => h.closeCheck) h

theorem dispose (h : s.Moves t) : s.Moves t.dispose := h.pass.closeCheck

theorem takeTick (h : s.Moves t) : s.Moves t.takeTick := by
  unfold State.takeTick State.advanceWaits
  exact h.onMatcher.dispose

theorem takeOwedTick (h : s.Moves t) : s.Moves t.takeOwedTick := by
  unfold State.takeOwedTick
  split
  · exact h.onMatcher.takeTick
  · exact h

/-! ### The Link Receivers -/

theorem cutFilling (h : s.Moves t) (e) : s.Moves (t.cutFilling e) := by
  unfold State.cutFilling
  split
  · exact h
  · next f filling =>
    have counted := (h.cut e f filling).onReceiver e
      (f := fun r => r.count fun c => { c with cuts := Counter.inc c.cuts })
    rw [State.onReceiver_onReceiver] at counted
    exact counted.closeCheck

theorem cutFilling_filling (t : State) (e : Eye) : ((t.cutFilling e).receiver e).filling = none := by
  rw [State.cutFilling_receiver]; rfl

/-- A receiver leaves FRAME_LOCK with its frame cut (R11). -/
theorem changeSync (h : s.Moves t) (e) {g : Receiver → Receiver}
    (keeps : ∀ r, (g r).filling = r.filling := by exact fun _ => rfl) : s.Moves (t.changeSync e g) := by
  have kept : ∀ u : State, (g (u.receiver e)).filling.map (·.slot) = u.fills e := fun u => by rw [keeps]; rfl
  unfold State.changeSync State.tellLeft
  split
  · have changed := (h.cutFilling e).onReceiver e (f := g) (kept _) fun filling => by
      rw [cutFilling_filling] at filling
      cases filling
    refine (State.Moves.onMatcher (changed.setCause _) ?_).pass
    unfold PairMatcher.leftLock
    split <;> rfl
  · next out => exact h.onUnlocked e out (kept t)

theorem linkOff (h : s.Moves t) (e) : s.Moves (t.linkOff e) := by
  unfold State.linkOff
  split
  · exact h
  · exact h.changeSync e

theorem linkOn (h : s.Moves t) (e) : s.Moves (t.linkOn e) := by
  unfold State.linkOn
  split
  · next off => exact h.onUnlocked e (by rw [off]; decide)
  · exact h

theorem enterFrameLock (h : s.Moves t) (e) : s.Moves (t.enterFrameLock e) := by
  unfold State.enterFrameLock
  exact ((State.Moves.onReceiver h e (locked := fun _ _ => rfl)).setCause _).pass.onReader _

theorem fillRow (h : s.Moves t) (e f good body) (filling : (t.receiver e).filling = some f) :
    s.Moves (t.fillRow e f good body) := by
  have counted : s.Moves (t.onReceiver e fun r => { r with filling := some (f.afterRow (rowData body)) }) :=
    h.onReceiver e (by rw [State.fills, filling]; rfl)
  unfold State.fillRow
  dsimp only
  split
  · exact (counted.row f _ _).onReceiver e
  · exact counted

theorem lockedRow (h : s.Moves t) (e length mark body) : s.Moves (t.lockedRow e length mark body) := by
  unfold State.lockedRow
  dsimp only
  split
  · exact h.changeSync e
  · split
    · exact h.onReceiver e
    · next f filling =>
      refine (State.Moves.onReceiver h e).fillRow e f _ body ?_
      rw [State.onReceiver_receiver]
      exact filling

/-- A row position of VERIFY fills no frame: it stays in VERIFY, or goes to HUNT or ROW_LOCK (R5). -/
theorem verifyRow_filling (r : Receiver) (length : Nat) (mark : BitVec 64) :
    (r.verifyRow length mark).filling = r.filling := by
  unfold Receiver.verifyRow Receiver.furtherMark
  split
  · dsimp only; split <;> rfl
  · rfl

theorem verify_filling (r : Receiver) (position : Nat) (mark : BitVec 64) :
    (r.verify position mark).filling = r.filling := by
  unfold Receiver.verify Receiver.scanMark
  split
  · (repeat' split) <;> rfl
  · split
    · exact verifyRow_filling r _ mark
    · rfl

theorem rowAtPosition (h : s.Moves t) (e mark body) : s.Moves (t.rowAtPosition e mark body) := by
  unfold State.rowAtPosition
  split
  · exact h
  · split
    · unfold State.takeRow
      split
      · next verify =>
        exact h.onUnlocked e (by rw [verify]; decide) (by rw [verifyRow_filling]; rfl)
      · exact h.lockedRow e _ mark body
      · exact h.lockedRow e _ mark body
      · exact h
      · exact h
    · exact h

theorem completeIfFilling (h : s.Moves t) (e tail) : s.Moves (t.completeIfFilling e tail) := by
  unfold State.completeIfFilling State.completeFrame
  split
  · exact h
  · next f filling =>
    split
    · next frame slot =>
      have counted := (h.complete e f frame (f.completed tail frame) filling slot rfl).onReceiver e
        (f := fun r => r.count (f.completionCount tail))
      rw [State.onReceiver_onReceiver] at counted
      exact counted.dispose
    · next other =>
      have cut := h.cut e f filling
      have same : t.onStore (FrameStore.cut · f.slot) = t :=
        congrArg (fun st => { t with store := st }) (FrameStore.cut_of_not_filling other)
      rwa [same] at cut

/-- An arrival in FRAME_LOCK at a receiver that fills no frame (R12 to R14). -/
theorem arrival (h : s.Moves t) (e head) (sync : (t.receiver e).sync = .frameLock)
    (vacant : s.FillsLocked → (t.receiver e).filling = none) : s.Moves (t.arrival e head) := by
  have arrived : s.Moves (t.onReceiver e fun r => r.arrive head) := h.onReceiver e
  unfold State.arrival State.claim State.slip State.beginFill
  dsimp only
  split
  · split
    · exact (arrived.onReceiver e).setCause _
    · next n granted =>
      refine (arrived.claim e
        (((t.onReceiver e fun r => r.arrive head).settings).newFilling e n)
        _ rfl granted ?_ ?_).closeCheck
      · rw [State.onReceiver_receiver]; exact sync
      · rw [State.onReceiver_receiver]; exact vacant
  · exact arrived.onReceiver e

theorem enterFrameLock_receiver (t : State) (e : Eye) : (t.enterFrameLock e).receiver e =
    { t.receiver e with sync := .frameLock, expectation := none, silence := 0 } := by
  unfold State.enterFrameLock
  cases e <;> simp

/-- A completion leaves the receiver its sync state and no frame to fill. -/
theorem completeIfFilling_receiver (t : State) (e : Eye) (tail : Option (BitVec 128)) :
    ((t.completeIfFilling e tail).receiver e).sync = (t.receiver e).sync ∧
    ((t.completeIfFilling e tail).receiver e).filling = none := by
  unfold State.completeIfFilling State.completeFrame State.dispose
  split
  · next none => exact ⟨rfl, none⟩
  · split
    · rw [State.closeCheck_receiver, State.pass_receiver, State.onReceiver_receiver, State.onStore_receiver]
      exact ⟨rfl, rfl⟩
    · rw [State.onReceiver_receiver]
      exact ⟨rfl, rfl⟩

/-- A Frame Head of a command: a receiver that enters FRAME_LOCK fills no frame yet. -/
theorem takeHead (s : State) (e head) : s.Moves (s.takeHead e head) := by
  have passed : s.Moves (s.onReceiver e fun r => r.passBoundary 24) := State.Moves.start.onReceiver e
  unfold State.takeHead State.headInRowLock State.headInFrameLock
  dsimp only
  split
  · next sync =>
    split
    · refine (passed.enterFrameLock e).arrival e head ?_ fun locked => ?_
      · rw [enterFrameLock_receiver]
      · rw [enterFrameLock_receiver, State.onReceiver_receiver]
        have out := locked e
        rw [sync] at out
        exact Option.not_isSome_iff_eq_none.1 fun filling => by cases out filling
    · exact passed.onReceiver e
  · next sync =>
    split
    · obtain ⟨kept, none⟩ := completeIfFilling_receiver
        ((s.onReceiver e fun r => r.passBoundary 24).onReceiver e fun r => { r with silence := 0 }) e none
      refine ((passed.onReceiver e).completeIfFilling e _).arrival e head ?_ fun _ => none
      rw [kept, State.onReceiver_receiver, State.onReceiver_receiver]
      exact sync
    · exact (State.Moves.onReceiver passed e).changeSync e
  all_goals exact passed

theorem takeTail (h : s.Moves t) (e tail) : s.Moves (t.takeTail e tail) := by
  have passed : s.Moves (t.onReceiver e fun r => r.passBoundary 16) := h.onReceiver e
  unfold State.takeTail
  dsimp only
  split
  · exact passed.completeIfFilling e _
  · exact passed

/-- In OFF a link command discards its bytes, and elsewhere it has its effect (R3). -/
theorem unlessOff (h : s.Moves t) (effect : s.Moves u) (e : Eye) {discarded : Receiver → Receiver}
    (fills : (discarded (t.receiver e)).filling.map (·.slot) = t.fills e := by rfl) :
    s.Moves (t.unlessOff e discarded u) := by
  unfold State.unlessOff
  split
  · next off => exact h.onUnlocked e (by rw [off]; decide) fills
  · exact effect

theorem takeSilenceTick (h : s.Moves t) (e) : s.Moves (t.takeSilenceTick e) := by
  unfold State.takeSilenceTick
  dsimp only
  split
  · split
    · exact h.onReceiver e
    · exact h.changeSync e
  · split
    · exact h.onReceiver e
    · exact h.changeSync e
  all_goals exact h

theorem takeOwedSilence (h : s.Moves t) (e) : s.Moves (t.takeOwedSilence e) := by
  unfold State.takeOwedSilence
  split
  · exact (State.Moves.onReceiver h e).takeSilenceTick e
  · exact h

/-! ### The Alignment Unit and the Delivery Engine -/

/-- A measured entry keeps its slots. -/
theorem onMeasuring_slots (m : PairMatcher) (unit : BitVec 32) (f : Finding) (offset : Int) :
    (m.onMeasuring unit fun x => x.measured f offset).table.flatMap Entry.slots = m.table.flatMap Entry.slots := by
  rw [PairMatcher.onMeasuring, List.flatMap_map]
  refine congrArg (m.table.flatMap ·) (funext fun x => ?_)
  split <;> rfl

theorem measurementDone (h : s.Moves t) (m) : s.Moves (t.measurementDone m) := by
  unfold State.measurementDone State.finishEntry State.removeIdle
  dsimp only
  split
  · exact h.onAlign _
  · next x found =>
    split
    · exact State.Moves.onMatcher (h.onAlign _) (onMeasuring_slots _ _ _ _)
    · exact ((h.onAlign _).remove x (List.mem_of_find?_eq_some found)).dispose

theorem startDelivery (h : s.Moves t) (target entry) : s.Moves (t.startDelivery target entry) := by
  unfold State.startDelivery State.shortTarget State.beginCopy
  split
  · exact (h.onDelivery _).place _
  · refine State.Moves.onMatcher ((h.onWriter _).onDelivery _) ?_
    unfold PairMatcher.deliverHead State.entrySlots
    simp only [State.onDelivery_matcher, State.onWriter_matcher]
    cases t.matcher.table <;> rfl

/-- A completed delivery removes its entry, and its slots with it (R121). -/
theorem completeCopy (h : s.Moves t) (c entry) (entered : entry ∈ t.matcher.table) :
    s.Moves (t.completeCopy c entry) := by
  have recorded := ((h.carryAll (c.remaining t.store.mem entry)).onWriter fun w =>
    { w with reserved := w.reserved - 1 }).place (.delivery (t.deliveryRecord c entry))
  have removed := recorded.remove entry (by simpa [State.carryAll] using entered)
  have counted := State.Moves.onMatcher removed (f := fun m => { m with
    takeRecords := if entry.takeNumber.isSome then Counter.inc m.takeRecords else m.takeRecords })
  unfold State.completeCopy State.placeReserved
  exact (counted.onDelivery fun d => d.completed entry.kind).dispose.onReader _

/-! ### The Result Writer, pace ticks and the Pace Generator -/

theorem consumedReturned (h : s.Moves t) (v) : s.Moves (t.consumedReturned v) := by
  unfold State.consumedReturned State.judgeAgain State.issueRecord State.lacksRoom
  split
  · exact h.onWriter _
  · split
    · exact (h.onWriter _).onWriter _
    · split
      · exact ((h.onWriter _).onWriter _).setCause _
      · exact h.onWriter _

theorem issueConsumed (h : s.Moves t) : s.Moves t.issueConsumed := h.onWriter _

theorem issueStatus (h : s.Moves t) (final) : s.Moves (t.issueStatus final) := by
  unfold State.issueStatus
  exact h.onWriter _

theorem ageSamples (h : s.Moves t) (port) : s.Moves (t.ageSamples port) := h.onPort port _

theorem writerTick (h : s.Moves t) : s.Moves t.writerTick := by
  unfold State.writerTick
  split
  · exact h.issueConsumed
  · exact h

theorem statusTick (h : s.Moves t) : s.Moves t.statusTick := by
  unfold State.statusTick State.statusOrSkip
  split
  · split
    · exact h.onWriter _
    · split
      · exact h
      · exact h.issueStatus false
  · exact h

theorem matcherTick (h : s.Moves t) : s.Moves t.matcherTick := by
  unfold State.matcherTick
  split
  · exact h
  · exact h.takeOwedTick.takeTick

theorem matcherTickLater (h : s.Moves t) : s.Moves t.matcherTickLater := by
  unfold State.matcherTickLater State.oweMatcherTick
  split
  · exact h
  · split
    · exact h.takeOwedTick.onMatcher
    · exact h.takeOwedTick.takeTick

theorem readerTick (h : s.Moves t) : s.Moves t.readerTick := by
  unfold State.readerTick
  split
  · split
    · exact h.onReader _
    · exact h
  · exact h.onReader _

theorem observe (h : s.Moves t) (o : TickObserver) : s.Moves (t.observe o) := by
  cases o with
  | linkReceiver e => exact (h.takeOwedSilence e).takeSilenceTick e
  | samplePort p => exact h.ageSamples p
  | pairMatcher => exact h.matcherTick
  | cueReader => exact h.readerTick
  | resultWriter => exact h.writerTick.statusTick

theorem observeLater (h : s.Moves t) (o : TickObserver) : s.Moves (t.observeLater o) := by
  cases o with
  | linkReceiver e =>
    unfold State.observeLater State.linkTickLater
    dsimp only
    split
    · exact State.Moves.onReceiver (h.takeOwedSilence e) e
    · exact (h.takeOwedSilence e).takeSilenceTick e
  | pairMatcher => exact h.matcherTickLater
  | samplePort p => exact h.observe (.samplePort p)
  | cueReader => exact h.observe .cueReader
  | resultWriter => exact h.observe .resultWriter

theorem tick (h : s.Moves t) (order : List TickObserver) : s.Moves (t.tick order) :=
  List.foldlRecOn _ _ (List.foldlRecOn _ _ h fun _ h o _ => h.observe o) fun _ h o _ => h.observeLater o

theorem enterHoldover (h : s.Moves t) (base order) : s.Moves (t.enterHoldover base order) := by
  unfold State.enterHoldover
  dsimp only
  split
  · split
    · exact ((((h.onPace _).onPace _).setCause _).tick order).setCause _
    · exact (((h.onPace _).onPace _).tick order).setCause _
  · exact ((h.onPace _).onPace _).setCause _

theorem seekLock (h : s.Moves t) (i order) : s.Moves (t.seekLock i order) := by
  unfold State.seekLock State.completeLock
  dsimp only
  split
  · exact (((h.onPace _).onPace _).tick order).setCause _
  · exact h.onPace _

theorem takePulse (h : s.Moves t) (order) : s.Moves (t.takePulse order) := by
  have noted : s.Moves (t.onPace fun g => { g with previousPulse := some t.now }) := h.onPace _
  unfold State.takePulse
  dsimp only
  split
  · exact noted
  · unfold State.judgedPulse
    split
    · split
      · exact ((noted.onPace _).onPace _).tick order
      · exact (noted.onPace _).enterHoldover _ order
    all_goals exact (noted.onPace _).seekLock _ order

theorem timerTick (h : s.Moves t) (timer order) : s.Moves (t.timerTick timer order) := by
  unfold State.timerTick
  dsimp only
  split
  · exact ((h.onPace _).setCause _).tick order
  · exact (h.onPace _).tick order

/-! ### The Cue Reader and the cues -/

/-- The decode that goes on touches neither the store nor what owns its slots. -/
theorem decodesOn (h : s.Moves t) (d : DecodesOn t u) : s.Moves u :=
  h.congr d.straps d.store d.left d.right (congrArg PairMatcher.table d.matcher)

theorem resume (h : s.Moves t) : s.Moves t.resume := h.decodesOn t.resume_decodesOn

theorem tryFetch (h : s.Moves t) : s.Moves t.tryFetch := by
  obtain ⟨fetch, same⟩ := t.tryFetch_eq
  rw [same]
  exact h.onReader _

theorem fetchReturned (h : s.Moves t) (f word) : s.Moves (t.fetchReturned f word) := by
  have returned : s.Moves (t.onReader fun r => { r with fetch := none }) := h.onReader _
  unfold State.fetchReturned
  dsimp only
  split
  · exact returned
  · split
    · unfold State.afterWord
      split
      · split
        · exact ((returned.onReader _).onReader _).resume
        · exact returned.onReader _
      · exact (returned.onReader _).resume
    · exact returned.tryFetch

theorem advancePast (h : s.Moves t) (n) : s.Moves (t.advancePast n) := (h.onReader _).resume

theorem jumpTo (h : s.Moves t) (cursor) : s.Moves (t.jumpTo cursor) := (h.onReader _).resume

theorem effectReturn (h : s.Moves t) : s.Moves t.effectReturn := by
  unfold State.effectReturn
  split
  · exact h
  · exact (h.onReader _).jumpTo _

/-- A flush clears the store, which keeps its size (R32). -/
theorem flush_cleared (t : State) (counted : Bool) : t.Cleared (t.flush counted) :=
  { slots := ⟨t.store.slots.length, rfl, .inr ⟨rfl, rfl⟩⟩
    queue := fun e => by cases e <;> rfl
    mem := .inl rfl
    table := rfl
    filling := fun e => by cases e <;> rfl }

theorem flush (h : s.Moves t) (counted) : s.Moves (t.flush counted) := h.clear (flush_cleared t counted)

theorem tellLink (h : s.Moves t) (p enable e) : s.Moves (t.tellLink p enable e) := by
  unfold State.tellLink
  split
  · split
    · exact h.linkOn e
    · exact h.linkOff e
  · exact h

theorem perform (h : s.Moves t) (c : Cue) : s.Moves (t.perform c) := by
  cases c with
  | park => exact (h.onReader _).setCause _
  | pad => exact h.advancePast _
  | jump target => exact h.jumpTo target
  | call target => exact (h.onReader _).jumpTo target
  | ret => exact h.effectReturn
  | eye x => exact (h.onReader _).advancePast _
  | format f => exact (((h.flush true).onSettings _).onAlign _).advancePast _
  | orient o => exact ((((h.flush true).onSettings _).onReader _).onAlign _).advancePast _
  | probes p => exact (((h.flush true).onSettings _).onAlign _).advancePast _
  | link enable => exact ((((h.onSettings _).onReader _).tellLink _ _ _).tellLink _ _ _).advancePast _
  | matching m => exact (State.Moves.onMatcher (h.onSettings _)).pass.advancePast _
  | track x => exact ((h.onSettings _).onAlign _).advancePast _
  | samples x => exact (h.onSettings _).advancePast _
  | pace p => exact ((h.onSettings _).onPace _).advancePast _
  | target x => exact (h.onDelivery _).advancePast _
  | openTake n => exact (h.onMatcher.place _).advancePast _
  | closeTake => exact h.onMatcher.closeCheck.advancePast _
  | note v => exact (h.place _).advancePast _
  | wait c => exact (h.onReader _).resume
  -- the recall cue: `recall` is a keyword of Mathlib and cannot name a case
  | _ => exact ((h.onDelivery _).place _).advancePast _

theorem cueCommand (h : s.Moves t) (n) : s.Moves (t.cueCommand n) := by
  unfold State.cueCommand State.holdCue
  split
  · split
    · exact h.perform _
    · exact h
  · split
    · exact (h.onReader _).tryFetch
    · exact h
  · exact h

theorem judgeHeld (h : s.Moves t) : s.Moves t.judgeHeld := by
  unfold State.judgeHeld
  split
  · exact h.perform _
  · exact h.onReader _
  · exact h

/-! ### The Register Window -/

theorem halt (h : s.Moves t) (reason) : s.Moves (t.halt reason) := (h.onRegs _).setCause _

/-- A reset that keeps slot memory clears the store at the size of the straps (R199). -/
theorem restart (s : State) (p : Straps) : s.Moves (s.restart p) :=
  State.Moves.start.clear
    { slots := ⟨_, rfl, .inl rfl⟩
      queue := fun e => by cases e <;> rfl
      mem := .inl rfl
      table := rfl
      filling := fun e => by cases e <;> rfl }

theorem softReset (s : State) : s.Moves s.softReset := (restart s s.straps).onRegs fun _ => s.regs.softReset

theorem powerOn (s : State) (p : Straps) (pending : List Instr) :
    s.Moves { State.powerOn p with pending := pending } :=
  State.Moves.start.clear
    { slots := ⟨_, rfl, .inl rfl⟩
      queue := fun e => by cases e <;> rfl
      mem := .inr rfl
      table := rfl
      filling := fun e => by cases e <;> rfl }

theorem commandStart (h : s.Moves t) : s.Moves t.commandStart := by
  have accepted : s.Moves t.acceptStart := by
    unfold State.acceptStart
    dsimp only
    split
    · exact (h.onRegs _).onRegs _
    · exact (h.onRegs _).halt _
  unfold State.commandStart
  split
  · exact accepted
  · exact accepted
  all_goals exact h.onRegs _

theorem setReader (h : s.Moves t) (x) : s.Moves (t.setReader x) := h.onReader _

theorem dropPartials (h : s.Moves t) : s.Moves t.dropPartials := ((h.onPort _ _).onPort _ _).onPort _ _

theorem commandStop (h : s.Moves t) : s.Moves t.commandStop := by
  have stopped : ∀ u : State, s.Moves u → s.Moves u.stopActions := fun u g => by
    have matcher : s.Moves (u.onMatcher fun m => { m with state := .stopped, tickOwed := false }) := g.onMatcher
    exact ((((matcher.linkOff .left).linkOff .right).dropPartials).onAlign _).setReader _
  unfold State.commandStop State.acceptStop
  split
  · exact stopped _ (h.onRegs _)
  · exact stopped _ (h.onRegs _)
  all_goals exact h.onRegs _

theorem writeRegister (s : State) (offset v) : s.Moves (s.writeRegister offset v) := by
  unfold State.writeRegister
  split
  · unfold State.writeControl
    split
    · exact State.Moves.start.commandStart
    · exact State.Moves.start.commandStop
    · exact softReset s
    · exact .start
  · exact State.Moves.start.setIrq _ _
  · exact State.Moves.start.setIrq _ _
  · exact State.Moves.start.onRegs _
  · exact State.Moves.start.onRegs _
  · exact .start

theorem start_filling (enabled : Bool) (r : Receiver) : (r.start enabled).filling = r.filling := by
  unfold Receiver.start
  cases enabled <;> rfl

theorem startCause_cleared (c : s.Cleared t) (e) : s.Cleared (t.startCause e) := by
  unfold State.startCause
  split
  · exact
      { slots := by simpa using c.slots, queue := by simpa using c.queue, mem := by simpa using c.mem
        table := by simpa using c.table, filling := by simpa using c.filling }
  · exact c

theorem onReceiver_cleared (c : s.Cleared t) (e) {f : Receiver → Receiver} (keeps : ∀ r, (f r).filling = r.filling) :
    s.Cleared (t.onReceiver e f) where
  slots := by simpa using c.slots
  queue := by simpa using c.queue
  mem := by simpa using c.mem
  table := by simpa using c.table
  filling d := by
    rw [State.onReceiver_receiver_eq]
    split
    · rw [keeps]; exact c.filling e
    · exact c.filling d

theorem startLinks_cleared (c : s.Cleared t) : s.Cleared t.startLinks := by
  have caused := startCause_cleared (startCause_cleared c .left) .right
  unfold State.startLinks
  exact onReceiver_cleared (onReceiver_cleared caused .left (start_filling _)) .right (start_filling _)

theorem startBlocks_cleared (c : s.Cleared t) : s.Cleared t.startBlocks where
  slots := c.slots
  queue e := by
    cases e
    · exact c.queue .left
    · exact c.queue .right
  mem := c.mem
  table := rfl
  filling e := by
    cases e
    · exact c.filling .left
    · exact c.filling .right

/-- The START actions leave the store as the START flush has cleared it (R192). -/
theorem enterRunning (h : s.Moves t) (header exchange) : s.Moves (t.enterRunning header exchange) := by
  have flushed := flush_cleared (t.onRegs fun r => r.enterRunning header exchange) false
  exact State.Moves.tryFetch ((h.onRegs _).clear (startBlocks_cleared (startLinks_cleared flushed)))

theorem busError (h : s.Moves t) : s.Moves t.busError := by
  have dropped : s.Moves (State.dropCopy { t with carried := t.abandoned }) := h.congr rfl rfl rfl rfl rfl
  exact (((dropped.dropPartials.onWriter _).onReader _).onRegs _).halt _

theorem acceptFinal (h : s.Moves t) : s.Moves t.acceptFinal := by
  unfold State.acceptFinal
  split
  · exact h
  · split
    · exact h.congr rfl rfl rfl rfl rfl
    · exact h

theorem idleBlocks_cleared (c : s.Cleared t) : s.Cleared t.idleBlocks where
  slots := c.slots
  queue e := by
    cases e
    · exact c.queue .left
    · exact c.queue .right
  mem := c.mem
  table := rfl
  filling e := by cases e <;> rfl

/-- Entry to IDLE clears the store (R194). -/
theorem enterIdle (h : s.Moves t) : s.Moves t.enterIdle :=
  (h.clear (idleBlocks_cleared (flush_cleared t false))).onRegs _

/-! ### The commands -/

/-- A conditional effect. -/
theorem ite {p : Prop} [Decidable p] (yes : s.Moves t) (no : s.Moves u) : s.Moves (if p then t else u) := by
  split
  · exact yes
  · exact no

theorem headerReadReturn (s : State) (header) : ∃ t, exec (.headerReadReturn header) s = .next t ∧ s.Moves t := by
  refine ⟨_, rfl, ?_⟩
  split
  · exact .start
  · have returned : s.Moves (s.onRegs fun r => { r with headerRead := none }) := State.Moves.start.onRegs _
    refine ite ?_ returned
    unfold State.judgeHeader
    exact ite (returned.enterRunning _ _) (returned.halt _)

theorem tickTimerExpiry (s : State) (order) : ∃ t, exec (.tickTimerExpiry order) s = .next t ∧ s.Moves t := by
  refine ⟨_, rfl, ?_⟩
  split
  · exact .start
  · exact State.Moves.start.timerTick _ _

theorem holdoverLimitReached (s : State) (order) :
    ∃ t, exec (.holdoverLimitReached order) s = .next t ∧ s.Moves t := by
  refine ⟨_, rfl, ?_⟩
  split
  · exact .start
  · exact ite (State.Moves.start.timerTick _ _) .start

theorem measurementBegin (s : State) : ∃ t, exec .measurementBegin s = .next t ∧ s.Moves t := by
  refine ⟨_, rfl, ite ?_ .start⟩
  split
  · exact .start
  · exact State.Moves.start.onAlign _

theorem measurementEnd (s : State) : ∃ t, exec .measurementDone s = .next t ∧ s.Moves t := by
  refine ⟨_, rfl, ?_⟩
  split
  · exact .start
  · exact State.Moves.start.measurementDone _

theorem deliveryStart (s : State) : ∃ t, exec .deliveryStart s = .next t ∧ s.Moves t := by
  refine ⟨_, rfl, ite ?_ .start⟩
  split
  · exact State.Moves.start.startDelivery _ _
  · exact .start

theorem copyCompletion (s : State) (writes) : ∃ t, exec (.copyCompletion writes) s = .next t ∧ s.Moves t := by
  refine ⟨_, rfl, ?_⟩
  split
  · next delivering =>
    refine ite ?_ .start
    split
    · exact State.Moves.start.completeCopy _ _ (List.mem_of_find?_eq_some delivering)
    · exact State.Moves.start.congr rfl rfl rfl rfl rfl
  · exact .start

theorem recordWriteAccepted (s : State) : ∃ t, exec .recordWriteAccepted s = .next t ∧ s.Moves t := by
  refine ⟨_, rfl, ?_⟩
  split
  · exact .start
  · exact ite (State.Moves.start.congr) .start

theorem statusWriteAccepted (s : State) : ∃ t, exec .statusWriteAccepted s = .next t ∧ s.Moves t := by
  refine ⟨_, rfl, ?_⟩
  split
  · exact .start
  · exact ite (State.Moves.start.congr rfl rfl rfl rfl rfl) .start

theorem cueFetchReturn (s : State) (word) : ∃ t, exec (.cueFetchReturn word) s = .next t ∧ s.Moves t := by
  refine ⟨_, rfl, ?_⟩
  split
  · exact .start
  · exact State.Moves.start.fetchReturned _ _

theorem faultRecordPlaced (s : State) : ∃ t, exec .faultRecordPlaced s = .next t ∧ s.Moves t := by
  refine ⟨_, rfl, ?_⟩
  split
  · exact ite ((State.Moves.start.onReader _).place _) .start
  · exact .start

theorem holdRelease (s : State) : ∃ t, exec .holdRelease s = .next t ∧ s.Moves t := by
  refine ⟨_, rfl, ?_⟩
  split
  · exact State.Moves.start.judgeHeld
  · exact .start

theorem waitEnd (s : State) : ∃ t, exec .waitEnd s = .next t ∧ s.Moves t := by
  refine ⟨_, rfl, ?_⟩
  split
  · exact (State.Moves.start.onReader _).resume
  · exact .start

theorem huntMarkFound (s : State) (e position mark) :
    ∃ t, exec (.huntMarkFound e position mark) s = .next t ∧ s.Moves t := by
  refine ⟨_, rfl, State.Moves.start.unlessOff ?_ e⟩
  split
  · next finds =>
    have hunt := ((Receiver.finds_iff _ _ _).1 finds).1
    exact State.Moves.start.onUnlocked e (by rw [hunt]; decide)
  · exact .start

theorem verifyMark (s : State) (e position mark) :
    ∃ t, exec (.verifyMark e position mark) s = .next t ∧ s.Moves t := by
  refine ⟨_, rfl, State.Moves.start.unlessOff ?_ e⟩
  split
  · next verify =>
    exact State.Moves.start.onUnlocked e (by rw [verify]; decide) (by rw [verify_filling]; rfl)
  · exact .start

/-- Every command is a sequence of moves. -/
theorem exec (s : State) (c : Instr) : ∃ t, exec c s = .next t ∧ s.Moves t := by
  have h : s.Moves s := .start
  cases c with
  | powerOnReset pins => exact ⟨_, rfl, powerOn s _ _⟩
  | pcieLinkReset pins => exact ⟨_, rfl, restart s _⟩
  | start => exact ⟨_, rfl, h.commandStart⟩
  | stop => exact ⟨_, rfl, h.commandStop⟩
  | reset => exact ⟨_, rfl, softReset s⟩
  | causeWrite v => exact ⟨_, rfl, h.setIrq _ _⟩
  | enableWrite v => exact ⟨_, rfl, h.setIrq _ _⟩
  | registerWrite offset width v =>
    cases width with
    | word => exact ⟨_, rfl, writeRegister s _ v⟩
    | byte => exact ⟨_, rfl, h⟩
    | half => exact ⟨_, rfl, h⟩
  | headerReadReturn header => exact headerReadReturn s header
  | busError a => exact ⟨_, rfl, ite h.busError h⟩
  | readTimeout a => exact ⟨_, rfl, ite h.busError h⟩
  | referencePulse order => exact ⟨_, rfl, ite (h.takePulse order) h⟩
  | lossDeadlineExpiry order => exact ⟨_, rfl, ite (h.enterHoldover _ order) h⟩
  | tickTimerExpiry order => exact tickTimerExpiry s order
  | holdoverLimitReached order => exact holdoverLimitReached s order
  | silenceExpiry e => exact ⟨_, rfl, h.takeOwedSilence e⟩
  | huntMarkFound e position mark => exact huntMarkFound s e position mark
  | verifyMark e position mark => exact verifyMark s e position mark
  | rowPosition e mark body => exact ⟨_, rfl, h.unlessOff (h.rowAtPosition e mark body) e⟩
  | frameHead e head => exact ⟨_, rfl, h.unlessOff (ite (takeHead s e head) h) e⟩
  | frameTail e tail => exact ⟨_, rfl, h.unlessOff (ite (h.takeTail e tail) h) e⟩
  | fillUnit e fill => exact ⟨_, rfl, h.unlessOff (ite (h.onReceiver e) h) e⟩
  | partnerWaitExpiry => exact ⟨_, rfl, ite h h.takeOwedTick⟩
  | takeCloseCompletion => exact ⟨_, rfl, ite h.takeOwedTick h⟩
  | sampleMessage port c framing => exact ⟨_, rfl, ite (ite (h.onPort _ _) h) h⟩
  | messageDeadlineExpiry port => exact ⟨_, rfl, ite (h.onPort port _) h⟩
  | measurementBegin => exact measurementBegin s
  | measurementDone => exact measurementEnd s
  | deliveryStart => exact deliveryStart s
  | copyCompletion writes => exact copyCompletion s writes
  | recordWriteAccepted => exact recordWriteAccepted s
  | consumedReadReturn v => exact ⟨_, rfl, ite (h.consumedReturned v) h⟩
  | statusWriteAccepted => exact statusWriteAccepted s
  | drainingEndReached => exact ⟨_, rfl, ite ((h.onWriter _).issueStatus true) h⟩
  | endOfDraining => exact ⟨_, rfl, ite (ite (State.Moves.enterIdle (ite h.acceptFinal h)) h) h⟩
  | cueFetchReturn word => exact cueFetchReturn s word
  | faultRecordPlaced => exact faultRecordPlaced s
  | holdRelease => exact holdRelease s
  | waitEnd => exact waitEnd s
  | sampleCharacter port c framing => exact ⟨_, rfl, ite (h.onPort _ _) h⟩
  | configurationAccess msi busMaster => exact ⟨_, rfl, h.onRegs _⟩
  -- every other command is a cue's
  | _ => exact ⟨_, rfl, h.cueCommand _⟩

theorem idle (s : State) : s.Moves s.idle := by
  unfold State.idle
  split
  · exact State.Moves.start.congr rfl rfl rfl rfl rfl
  · exact State.Moves.start.onPace _

end State.Moves

end Sys2Proof.Machine

open Sys2Proof Sys2Proof.Machine

namespace Sys2Proof.Machine

/-- A step is a sequence of moves from the state that its command is taken in. -/
theorem State.step_moves {s t : State} (answer : step s = .next t) :
    ∃ pending, State.Moves { s with pending := pending } t := by
  unfold Machine.step at answer
  split at answer
  · cases answer
    exact ⟨s.pending, State.Moves.idle s⟩
  · next c rest _ =>
    obtain ⟨u, next, moves⟩ := State.Moves.exec { s with pending := rest } c
    rw [next] at answer
    cases answer
    exact ⟨rest, moves⟩

end Sys2Proof.Machine

/-- Settles O54: a step is a sequence of moves of the Frame Store, of which a row alone writes to slot memory. -/
theorem stepKeepsMemory : Obligations.StepKeepsMemory := by
  unfold Obligations.StepKeepsMemory
  intro s t canonical answer
  obtain ⟨pending, moves⟩ := State.step_moves answer
  exact moves.memory canonical

/-- Settles O56: a step is a sequence of moves of the Frame Store, and each keeps the pool and the queues, and passes a
slot from one owner to another. -/
theorem stepKeepsPool : Obligations.StepKeepsPool := by
  unfold Obligations.StepKeepsPool
  refine ⟨fun s t pool answer => ?_, fun s t _ sound answer => ?_⟩
  · obtain ⟨pending, moves⟩ := State.step_moves answer
    exact moves.pool pool
  · obtain ⟨pending, moves⟩ := State.step_moves answer
    exact (State.slotsSound_iff t).2 (moves.owned ((State.slotsSound_iff { s with pending := pending }).1
      { sound with }))

end

section
/-! SUPPORT. What leaves the Pace Generator and the straps as they are: every operation but the pulses, the expiries,
the PACE cue, the START actions and the resets (R49). -/

namespace Sys2Proof.Machine

/-- The Pace Generator and the straps stay. -/
structure State.Timeless (s t : State) : Prop where
  pace : t.pace = s.pace
  straps : t.straps = s.straps

namespace State.Timeless
variable {s t u : State}

theorem refl (s : State) : s.Timeless s := ⟨rfl, rfl⟩

theorem congr (h : s.Timeless t) (pace : u.pace = t.pace := by simp) (straps : u.straps = t.straps := by simp) :
    s.Timeless u := ⟨pace.trans h.pace, straps.trans h.straps⟩

/-- A conditional effect. -/
theorem ite {p : Prop} [Decidable p] (yes : s.Timeless t) (no : s.Timeless u) : s.Timeless (if p then t else u) := by
  split
  · exact yes
  · exact no

/-! ### The Link Receivers -/

theorem enterFrameLock (h : s.Timeless t) (e) : s.Timeless (t.enterFrameLock e) := by
  unfold State.enterFrameLock
  exact h.congr

theorem completeIfFilling (h : s.Timeless t) (e tail) : s.Timeless (t.completeIfFilling e tail) := by
  unfold State.completeIfFilling State.completeFrame
  split
  · exact h
  · split <;> exact h.congr

theorem arrival (h : s.Timeless t) (e head) : s.Timeless (t.arrival e head) := by
  unfold State.arrival State.claim State.slip State.beginFill
  refine ite ?_ h.congr
  split <;> exact h.congr

theorem lockedRow (h : s.Timeless t) (e length mark body) : s.Timeless (t.lockedRow e length mark body) := by
  unfold State.lockedRow State.fillRow
  refine ite h.congr ?_
  split
  · exact h.congr
  · exact ite h.congr h.congr

theorem rowAtPosition (h : s.Timeless t) (e mark body) : s.Timeless (t.rowAtPosition e mark body) := by
  unfold State.rowAtPosition State.takeRow
  split
  · exact h
  · refine ite ?_ h
    split
    · exact h.congr
    · exact h.lockedRow _ _ _ _
    · exact h.lockedRow _ _ _ _
    all_goals exact h

theorem takeHead (h : s.Timeless t) (e head) : s.Timeless (t.takeHead e head) := by
  unfold State.takeHead State.headInRowLock State.headInFrameLock State.countBadHead
  dsimp only
  split
  · exact ite (State.Timeless.arrival (State.Timeless.enterFrameLock h.congr e) e head) h.congr
  · exact ite (State.Timeless.arrival (State.Timeless.completeIfFilling h.congr e none) e head) h.congr
  all_goals exact h.congr

theorem takeTail (h : s.Timeless t) (e tail) : s.Timeless (t.takeTail e tail) :=
  ite (State.Timeless.completeIfFilling h.congr e _) h.congr

/-- In OFF a link command discards its bytes, and elsewhere it has its effect (R3). -/
theorem unlessOff (h : s.Timeless t) (effect : s.Timeless u) (e f) : s.Timeless (t.unlessOff e f u) :=
  ite h.congr effect

/-! ### The Alignment Unit, the Delivery Engine and the Result Writer -/

theorem measurementDone (h : s.Timeless t) (m) : s.Timeless (t.measurementDone m) := by
  unfold State.measurementDone State.finishEntry State.removeIdle
  dsimp only
  split
  · exact h.congr
  · split <;> exact h.congr

theorem startDelivery (h : s.Timeless t) (target entry) : s.Timeless (t.startDelivery target entry) := by
  unfold State.startDelivery State.shortTarget State.beginCopy
  exact ite h.congr h.congr

theorem completeCopy (h : s.Timeless t) (c entry) : s.Timeless (t.completeCopy c entry) := by
  unfold State.completeCopy State.placeReserved
  have carried : s.Timeless (t.carryAll (c.remaining t.store.mem entry)) := h.congr rfl rfl
  exact carried.congr

theorem consumedReturned (h : s.Timeless t) (v) : s.Timeless (t.consumedReturned v) := by
  unfold State.consumedReturned State.judgeAgain State.issueRecord State.lacksRoom
  split
  · exact h.congr
  · exact ite h.congr (ite h.congr h.congr)

/-! ### The Cue Reader and the cues -/

theorem tryFetch (h : s.Timeless t) : s.Timeless t.tryFetch := ite h.congr h

theorem resume (h : s.Timeless t) : s.Timeless t.resume :=
  h.congr t.resume_decodesOn.pace t.resume_decodesOn.straps

theorem setReader (h : s.Timeless t) (x) : s.Timeless (t.setReader x) := h.congr rfl rfl

theorem fetchReturned (h : s.Timeless t) (f word) : s.Timeless (t.fetchReturned f word) := by
  have placed : s.Timeless ((t.onReader fun r => { r with fetch := none }).onReader fun r => r.placeWord word) :=
    h.congr
  unfold State.fetchReturned State.afterWord
  refine ite h.congr (ite ?_ (State.Timeless.tryFetch h.congr))
  split
  · exact ite (placed.setReader _).resume placed
  · exact placed.resume

theorem advancePast (h : s.Timeless t) (n) : s.Timeless (t.advancePast n) := State.Timeless.resume h.congr

theorem jumpTo (h : s.Timeless t) (cursor) : s.Timeless (t.jumpTo cursor) := State.Timeless.resume h.congr

theorem flush (h : s.Timeless t) (counted) : s.Timeless (t.flush counted) := by
  unfold State.flush
  exact h.congr

theorem tellLink (h : s.Timeless t) (p enable e) : s.Timeless (t.tellLink p enable e) :=
  ite (ite h.congr h.congr) h

theorem effectReturn (h : s.Timeless t) : s.Timeless t.effectReturn := by
  unfold State.effectReturn
  split
  · exact h
  · exact State.Timeless.jumpTo h.congr _

/-- Every cue but PACE leaves the Pace Generator alone (R46). -/
theorem perform (h : s.Timeless t) {c : Cue} (other : ∀ p, c ≠ .pace p) : s.Timeless (t.perform c) := by
  cases c with
  | park =>
    have parked : s.Timeless ((t.setReader .parked).setCause .parked) := (h.setReader .parked).congr
    exact parked
  | pad => exact h.advancePast _
  | jump a => exact h.jumpTo _
  | call a =>
    have pushed : s.Timeless (t.onReader fun r =>
      { r with stack := (r.cursor + CueName.baseLength .call) :: r.stack }) := h.congr
    exact pushed.jumpTo a
  | ret => exact h.effectReturn
  | eye x => exact State.Timeless.advancePast h.congr _
  | format f => exact State.Timeless.advancePast ((h.flush true).congr) _
  | orient o =>
    have cleared : s.Timeless ((t.flush true).onSettings fun x => x.orientBy t.reader.eyePrefix o).clearPrefix :=
      (h.flush true).congr rfl rfl
    exact State.Timeless.advancePast cleared.congr _
  | probes p => exact State.Timeless.advancePast ((h.flush true).congr) _
  | link enable =>
    have set : s.Timeless (t.onSettings fun x => x.linkBy t.reader.eyePrefix enable).clearPrefix := h.congr rfl rfl
    exact ((set.tellLink _ _ _).tellLink _ _ _).advancePast _
  | matching m =>
    have expired : s.Timeless (t.onSettings fun x => { x with matching := m }).expireReached := h.congr rfl rfl
    exact State.Timeless.advancePast expired.congr _
  | track x => exact State.Timeless.advancePast h.congr _
  | samples x => exact State.Timeless.advancePast h.congr _
  | pace p => exact absurd rfl (other p)
  | target x => exact State.Timeless.advancePast h.congr _
  | openTake n => exact State.Timeless.advancePast h.congr _
  | closeTake => exact State.Timeless.advancePast h.congr _
  | note v => exact State.Timeless.advancePast h.congr _
  | wait c => exact State.Timeless.resume h.congr
  -- the recall cue: `recall` is a keyword of Mathlib and cannot name a case
  | _ => exact State.Timeless.advancePast h.congr _

/-! ### The Register Window -/

theorem commandStart (h : s.Timeless t) : s.Timeless t.commandStart := by
  have accepted : s.Timeless t.acceptStart := by
    unfold State.acceptStart State.halt
    exact ite h.congr h.congr
  unfold State.commandStart
  split
  · exact accepted
  · exact accepted
  all_goals exact h.congr rfl rfl

theorem commandStop (h : s.Timeless t) : s.Timeless t.commandStop := by
  have accepted : s.Timeless t.acceptStop := by
    unfold State.acceptStop State.stopActions State.dropPartials
    exact State.Timeless.setReader h.congr _
  unfold State.commandStop
  split
  · exact accepted
  · exact accepted
  all_goals exact h.congr rfl rfl

theorem busError (h : s.Timeless t) : s.Timeless t.busError := by
  have dropped : s.Timeless (State.dropCopy { t with carried := t.abandoned }) := h.congr rfl rfl
  unfold State.busError State.dropPartials State.halt
  exact dropped.congr

theorem acceptFinal (h : s.Timeless t) : s.Timeless t.acceptFinal := by
  unfold State.acceptFinal
  split
  · exact h
  · exact ite (h.congr rfl rfl) h

/-- Entry to IDLE leaves the Pace Generator alone (R49). -/
theorem enterIdle (h : s.Timeless t) : s.Timeless t.enterIdle := by
  unfold State.enterIdle State.idleBlocks
  exact (h.flush false).congr

end State.Timeless

end Sys2Proof.Machine
end

section
/-! SUPPORT. The coherence of the Pace Generator (R40 to R45), kept by its own operations and so by every command. -/

namespace Sys2Proof.Machine

/-! ### The generator alone -/

namespace PaceGenerator

/-- The part of the coherence that reads the generator alone. -/
def Phased (g : PaceGenerator) : Prop :=
  (match g.state with
    | .referenced => g.timer = none ∧ g.deadline.isSome ∧ g.measured.isSome ∧ g.previousPulse.isSome
    | .holdover => g.timer.isSome ∧ g.deadline = none ∧ g.measured.isSome ∧ g.runCount ≤ 3
    | .free => g.timer.isSome ∧ g.deadline = none ∧ g.runCount ≤ 3) ∧
  g.holdoverCount ≤ 65535

/-- What ABSENT asks of the generator (R45). -/
def Unreferenced (g : PaceGenerator) : Prop :=
  g.state = .free ∧ g.measured = none ∧ g.previousPulse = none ∧ g.inconsistent = 0#32

variable {g g' : PaceGenerator}

theorem phased_iff_free (state : g.state = .free) :
    g.Phased ↔ (g.timer.isSome ∧ g.deadline = none ∧ g.runCount ≤ 3) ∧ g.holdoverCount ≤ 65535 := by
  rw [Phased, state]

theorem phased_iff_holdover (state : g.state = .holdover) : g.Phased ↔
    (g.timer.isSome ∧ g.deadline = none ∧ g.measured.isSome ∧ g.runCount ≤ 3) ∧ g.holdoverCount ≤ 65535 := by
  rw [Phased, state]

theorem phased_iff_referenced (state : g.state = .referenced) : g.Phased ↔
    (g.timer = none ∧ g.deadline.isSome ∧ g.measured.isSome ∧ g.previousPulse.isSome) ∧ g.holdoverCount ≤ 65535 := by
  rw [Phased, state]

theorem phased_of_free (state : g.state = .free) (timer : g.timer.isSome) (deadline : g.deadline = none)
    (run : g.runCount ≤ 3) (count : g.holdoverCount ≤ 65535) : g.Phased :=
  (phased_iff_free state).2 ⟨⟨timer, deadline, run⟩, count⟩

theorem phased_of_holdover (state : g.state = .holdover) (timer : g.timer.isSome) (deadline : g.deadline = none)
    (measured : g.measured.isSome) (run : g.runCount ≤ 3) (count : g.holdoverCount ≤ 65535) : g.Phased :=
  (phased_iff_holdover state).2 ⟨⟨timer, deadline, measured, run⟩, count⟩

theorem phased_of_referenced (state : g.state = .referenced) (timer : g.timer = none) (deadline : g.deadline.isSome)
    (measured : g.measured.isSome) (pulse : g.previousPulse.isSome) (count : g.holdoverCount ≤ 65535) : g.Phased :=
  (phased_iff_referenced state).2 ⟨⟨timer, deadline, measured, pulse⟩, count⟩

/-- The coherence reads neither the stamp nor what is noted of ticks and pulses that lock nothing. -/
theorem Phased.congr (h : g.Phased) (state : g'.state = g.state := by rfl)
    (timer : g'.timer.isSome = g.timer.isSome := by rfl) (deadline : g'.deadline = g.deadline := by rfl)
    (measured : g'.measured = g.measured := by rfl)
    (pulse : g.previousPulse.isSome → g'.previousPulse.isSome := by exact fun pulse => pulse)
    (run : g'.runCount = g.runCount := by rfl) (count : g'.holdoverCount = g.holdoverCount := by rfl) : g'.Phased := by
  cases phase : g.state with
  | free =>
    rw [phased_iff_free (state.trans phase), timer, deadline, run, count]
    exact (phased_iff_free phase).1 h
  | holdover =>
    rw [phased_iff_holdover (state.trans phase), timer, deadline, measured, run, count]
    exact (phased_iff_holdover phase).1 h
  | referenced =>
    obtain ⟨⟨stopped, armed, period, pulsed⟩, counted⟩ := (phased_iff_referenced phase).1 h
    rw [phased_iff_referenced (state.trans phase), deadline, measured, count]
    have none : g'.timer = none := by rw [← Option.isNone_iff_eq_none, ← Option.not_isSome, timer, stopped]; rfl
    exact ⟨⟨none, armed, period, pulse pulsed⟩, counted⟩

theorem countPulse_phased (h : g.Phased) (i : Nat) : (g.countPulse i).Phased := by
  unfold countPulse
  split
  · exact h
  · exact h.congr

/-- A holdover tick leaves HOLDOVER with its timer, or enters FREE with one (R43). -/
theorem holdoverTick_phased (state : g.state = .holdover) (deadline : g.deadline = none) (measured : g.measured.isSome)
    (run : g.runCount ≤ 3) (p due next) : (g.holdoverTick p due next).Phased := by
  have counted : inc16 g.holdoverCount ≤ 65535 := Nat.min_le_right _ _
  unfold holdoverTick
  dsimp only
  split
  · exact phased_of_free rfl rfl deadline (Nat.zero_le 3) counted
  · exact phased_of_holdover state rfl deadline measured run counted

/-- The timer is there in HOLDOVER and FREE, and a tick sets it anew (R43, R44). -/
theorem timerTick_phased (h : g.Phased) (p t) : (g.timerTick p t).Phased := by
  unfold timerTick
  split
  · next state =>
    obtain ⟨⟨-, deadline, measured, run⟩, -⟩ := (phased_iff_holdover state).1 h
    exact holdoverTick_phased state deadline measured run p _ _
  · next state =>
    obtain ⟨⟨-, deadline, run⟩, counted⟩ := (phased_iff_free state).1 h
    exact phased_of_free state rfl deadline run counted
  · exact h

/-- In FREE the timer's tick leaves the generator in FREE with nothing measured (R45). -/
theorem timerTick_unreferenced (h : g.Unreferenced) (p t) : (g.timerTick p t).Unreferenced := by
  unfold timerTick
  split
  · next state => exact absurd (h.1.symm.trans state) (by decide)
  · exact h
  · exact h

theorem retime_phased (h : g.Phased) (free : Nat) : (g.retime free).Phased := by
  unfold retime
  split
  · exact h.congr (timer := Option.isSome_map)
  · exact h

theorem retime_unreferenced (h : g.Unreferenced) (free : Nat) : (g.retime free).Unreferenced := by
  unfold retime
  split <;> exact h

/-- The deadline is lost in REFERENCED alone (R42). -/
theorem referenced_of_lost (h : g.lost = true) : g.state = .referenced := by
  simp only [lost, Bool.and_eq_true, beq_iff_eq] at h
  exact h.1

end PaceGenerator

/-! ### The operations of the state -/

theorem State.paceSound_iff (s : State) :
    s.paceSound ↔ s.pace.Phased ∧ (s.straps.referencePresent = false → s.pace.Unreferenced) := and_assoc.symm

/-- With the reference PRESENT the coherence is the generator's alone. -/
theorem State.paceSound_of_present {s : State} (present : s.straps.referencePresent = true) (h : s.pace.Phased) :
    s.paceSound :=
  s.paceSound_iff.2 ⟨h, fun absent => absurd (present.symm.trans absent) (by decide)⟩

theorem State.paceSound_reset {s : State} (h : s.pace = PaceGenerator.reset) : s.paceSound := by
  rw [State.paceSound_iff, h]
  exact ⟨⟨⟨rfl, rfl, Nat.zero_le 3⟩, Nat.zero_le _⟩, fun _ => ⟨rfl, rfl, rfl, rfl⟩⟩

/-- Leaving REFERENCED keeps the measured period (R42). -/
theorem State.enterHoldover_phased {s : State} (measured : s.pace.measured.isSome) (t order) :
    (s.enterHoldover t order).pace.Phased := by
  have begun := s.pace.beginHoldover.holdoverTick_phased rfl rfl measured (Nat.zero_le 3) s.settings.pace s.now
    { base := t, wait := 2 * s.pace.measured.getD 0 }
  unfold State.enterHoldover
  dsimp only
  split
  · rw [State.setCause_pace, State.tick_pace]
    split
    · rw [State.setCause_pace]; exact begun
    · exact begun
  · rw [State.setCause_pace]
    exact PaceGenerator.phased_of_holdover rfl rfl rfl measured (Nat.zero_le 3) (Nat.zero_le _)

@[simp] theorem State.enterHoldover_straps (s : State) (t order) : (s.enterHoldover t order).straps = s.straps := by
  unfold State.enterHoldover
  dsimp only
  split
  · rw [State.setCause_straps, State.tick_straps]
    split <;> simp
  · simp

/-- A run that does not complete lock counts 3 pulses at most, and one that does enters REFERENCED (R39, R40). -/
theorem State.seekLock_phased {s : State} (h : s.pace.Phased) (unlocked : s.pace.state ≠ .referenced)
    (pulsed : s.pace.previousPulse.isSome) (i order) : (s.seekLock i order).pace.Phased := by
  unfold State.seekLock State.completeLock
  dsimp only
  split
  · rw [State.setCause_pace, State.tick_pace]
    exact PaceGenerator.phased_of_referenced rfl rfl rfl rfl pulsed (Nat.zero_le _)
  · next short =>
    have run : (s.pace.runAfter i).1 ≤ 3 := by omega
    cases state : s.pace.state with
    | free =>
      obtain ⟨⟨timer, deadline, -⟩, counted⟩ := (PaceGenerator.phased_iff_free state).1 h
      exact PaceGenerator.phased_of_free state timer deadline run counted
    | holdover =>
      obtain ⟨⟨timer, deadline, measured, -⟩, counted⟩ := (PaceGenerator.phased_iff_holdover state).1 h
      exact PaceGenerator.phased_of_holdover state timer deadline measured run counted
    | referenced => exact absurd state unlocked

/-- A pulse with an interval is judged by the pace state (R38 to R42). -/
theorem State.judgedPulse_phased {s : State} (h : s.pace.Phased) (pulsed : s.pace.previousPulse.isSome) (t i order) :
    (s.judgedPulse t i order).pace.Phased := by
  unfold State.judgedPulse
  split
  · next state =>
    obtain ⟨⟨stopped, -, measured, -⟩, counted⟩ := (PaceGenerator.phased_iff_referenced state).1 h
    split
    · rw [State.followPulse, State.tick_pace]
      exact PaceGenerator.phased_of_referenced state stopped rfl rfl pulsed counted
    · exact State.enterHoldover_phased measured t order
  · next state => exact State.seekLock_phased h (by rw [state]; decide) pulsed i order
  · next state => exact State.seekLock_phased h (by rw [state]; decide) pulsed i order

theorem PaceGenerator.countPulse_previousPulse (g : PaceGenerator) (i : Nat) :
    (g.countPulse i).previousPulse = g.previousPulse := by
  unfold PaceGenerator.countPulse
  split <;> rfl

theorem State.takePulse_phased {s : State} (h : s.pace.Phased) (order) : (s.takePulse order).pace.Phased := by
  have noted : (s.onPace fun g => { g with previousPulse := some s.now }).pace.Phased := h.congr (pulse := fun _ => rfl)
  unfold State.takePulse
  dsimp only
  split
  · exact noted
  · exact State.judgedPulse_phased (PaceGenerator.countPulse_phased noted _)
      (by rw [State.onPace_pace, PaceGenerator.countPulse_previousPulse]; rfl) _ _ order

@[simp] theorem State.takePulse_straps (s : State) (order) : (s.takePulse order).straps = s.straps := by
  unfold State.takePulse State.judgedPulse State.followPulse State.seekLock State.completeLock
  dsimp only
  split
  · rfl
  · split
    · split <;> simp [State.tick_straps]
    all_goals split <;> simp [State.tick_straps]

theorem State.timerTick_pace (s : State) (t order) :
    (s.timerTick t order).pace = s.pace.timerTick s.settings.pace t := by
  unfold State.timerTick
  dsimp only
  rw [State.tick_pace]
  split <;> simp

theorem State.timerTick_straps (s : State) (t order) : (s.timerTick t order).straps = s.straps := by
  unfold State.timerTick
  dsimp only
  rw [State.tick_straps]
  split <;> simp

/-! ### The commands -/

namespace State.paceSound
variable {s t : State}

theorem timeless (h : s.paceSound) (k : s.Timeless t) : t.paceSound := by
  rw [State.paceSound_iff, k.pace, k.straps]
  exact s.paceSound_iff.1 h

/-- A conditional effect. -/
theorem ite {p : Prop} [Decidable p] (yes : p → s.paceSound) (no : ¬ p → t.paceSound) :
    (if p then s else t).paceSound := by
  split
  · exact yes ‹_›
  · exact no ‹_›

theorem takePulse (h : s.paceSound) (present : s.straps.referencePresent = true) (order) :
    (s.takePulse order).paceSound :=
  State.paceSound_of_present (by simpa using present) (State.takePulse_phased (s.paceSound_iff.1 h).1 order)

/-- A deadline is lost in REFERENCED, which ABSENT rules out (R42, R45). -/
theorem loseDeadline (h : s.paceSound) (lost : s.pace.lost = true) (t order) : (s.enterHoldover t order).paceSound := by
  obtain ⟨phased, absent⟩ := s.paceSound_iff.1 h
  have state := PaceGenerator.referenced_of_lost lost
  obtain ⟨⟨-, -, measured, -⟩, -⟩ := (PaceGenerator.phased_iff_referenced state).1 phased
  have present : s.straps.referencePresent = true := by
    by_contra not
    exact absurd (state.symm.trans (absent (Bool.eq_false_iff.2 not)).1) (by decide)
  exact State.paceSound_of_present (by simpa using present) (State.enterHoldover_phased measured t order)

theorem timerTick (h : s.paceSound) (timer order) : (s.timerTick timer order).paceSound := by
  obtain ⟨phased, absent⟩ := s.paceSound_iff.1 h
  rw [State.paceSound_iff, State.timerTick_pace, State.timerTick_straps]
  exact ⟨PaceGenerator.timerTick_phased phased _ _, fun a => PaceGenerator.timerTick_unreferenced (absent a) _ _⟩

/-- PACE may time the running FREE interval anew (R46). -/
theorem effectPace (h : s.paceSound) (p) : (s.effectPace p).paceSound := by
  obtain ⟨phased, absent⟩ := s.paceSound_iff.1 h
  have retimed : ((s.onSettings fun x => { x with pace := p }).onPace fun g => g.retime p.freePeriod).paceSound :=
    (State.paceSound_iff _).2
      ⟨PaceGenerator.retime_phased phased _, fun a => PaceGenerator.retime_unreferenced (absent a) _⟩
  exact retimed.timeless ((State.Timeless.refl _).advancePast .pace)

theorem perform (h : s.paceSound) (c : Cue) : (s.perform c).paceSound := by
  by_cases pace : ∃ p, c = .pace p
  · obtain ⟨p, rfl⟩ := pace
    exact h.effectPace p
  · exact h.timeless ((State.Timeless.refl s).perform fun p is => pace ⟨p, is⟩)

theorem cueCommand (h : s.paceSound) (n) : (s.cueCommand n).paceSound := by
  unfold State.cueCommand State.holdCue
  split
  · exact ite (fun _ => h.perform _) fun _ => h
  · exact ite (fun _ => h.timeless ((State.Timeless.refl s).setReader _).tryFetch) fun _ => h
  · exact h

theorem judgeHeld (h : s.paceSound) : s.judgeHeld.paceSound := by
  unfold State.judgeHeld
  split
  · exact h.perform _
  · exact h.timeless ((State.Timeless.refl s).setReader _)
  · exact h

theorem writeRegister (h : s.paceSound) (offset v) : (s.writeRegister offset v).paceSound := by
  have same := State.Timeless.refl s
  unfold State.writeRegister State.writeControl State.writeCause State.writeEnable
  split
  · split
    · exact h.timeless same.commandStart
    · exact h.timeless same.commandStop
    · exact State.paceSound_reset rfl
    · exact h
  all_goals exact h.timeless same.congr

/-- START sets the count of inconsistent pulses to 0, and leaves the rest of the Pace Generator (R49, R192). -/
theorem enterRunning (h : s.paceSound) (header exchange) : (s.enterRunning header exchange).paceSound := by
  obtain ⟨phased, absent⟩ := s.paceSound_iff.1 h
  have linked : s.Timeless ((s.onRegs fun r => r.enterRunning header exchange).flush false).startLinks := by
    unfold State.startLinks State.startCause
    refine State.Timeless.congr (t := (s.onRegs fun r => r.enterRunning header exchange).flush false)
      (State.Timeless.flush (State.Timeless.congr (.refl s)) false) ?_ ?_ <;> split <;> split <;> simp
  have started :
      (((s.onRegs fun r => r.enterRunning header exchange).flush false).startLinks.startBlocks).paceSound := by
    rw [State.paceSound_iff]
    unfold State.startBlocks
    dsimp only
    rw [linked.pace, linked.straps]
    exact ⟨phased.congr, fun a => ⟨(absent a).1, (absent a).2.1, (absent a).2.2.1, rfl⟩⟩
  exact started.timeless (State.Timeless.refl _).tryFetch

theorem headerReadReturn (h : s.paceSound) (header) :
    ∃ t, exec (.headerReadReturn header) s = .next t ∧ t.paceSound := by
  refine ⟨_, rfl, ?_⟩
  split
  · exact h
  · have returned : (s.onRegs fun r => { r with headerRead := none }).paceSound := h.timeless ⟨rfl, rfl⟩
    refine ite (fun _ => ?_) fun _ => returned
    unfold State.judgeHeader State.halt
    exact ite (fun _ => returned.enterRunning _ _) fun _ => returned.timeless (State.Timeless.congr (.refl _))

theorem tickTimerExpiry (h : s.paceSound) (order) : ∃ t, exec (.tickTimerExpiry order) s = .next t ∧ t.paceSound := by
  refine ⟨_, rfl, ?_⟩
  split
  · exact h
  · exact h.timerTick _ order

theorem holdoverLimitReached (h : s.paceSound) (order) :
    ∃ t, exec (.holdoverLimitReached order) s = .next t ∧ t.paceSound := by
  refine ⟨_, rfl, ?_⟩
  split
  · exact h
  · exact ite (fun _ => h.timerTick _ order) fun _ => h

theorem measurementBegin (h : s.paceSound) : ∃ t, exec .measurementBegin s = .next t ∧ t.paceSound := by
  refine ⟨_, rfl, ite (fun _ => ?_) fun _ => h⟩
  split
  · exact h
  · exact h.timeless ⟨rfl, rfl⟩

theorem measurementEnd (h : s.paceSound) : ∃ t, exec .measurementDone s = .next t ∧ t.paceSound := by
  refine ⟨_, rfl, ?_⟩
  split
  · exact h
  · exact h.timeless ((State.Timeless.refl s).measurementDone _)

theorem deliveryStart (h : s.paceSound) : ∃ t, exec .deliveryStart s = .next t ∧ t.paceSound := by
  refine ⟨_, rfl, ite (fun _ => ?_) fun _ => h⟩
  split
  · exact h.timeless ((State.Timeless.refl s).startDelivery _ _)
  · exact h

theorem copyCompletion (h : s.paceSound) (writes) : ∃ t, exec (.copyCompletion writes) s = .next t ∧ t.paceSound := by
  refine ⟨_, rfl, ?_⟩
  split
  · refine ite (fun _ => ?_) fun _ => h
    split
    · exact h.timeless ((State.Timeless.refl s).completeCopy _ _)
    · exact h.timeless ⟨rfl, rfl⟩
  · exact h

theorem recordWriteAccepted (h : s.paceSound) : ∃ t, exec .recordWriteAccepted s = .next t ∧ t.paceSound := by
  refine ⟨_, rfl, ?_⟩
  split
  · exact h
  · exact ite (fun _ => h.timeless (State.Timeless.congr (.refl s))) fun _ => h

theorem statusWriteAccepted (h : s.paceSound) : ∃ t, exec .statusWriteAccepted s = .next t ∧ t.paceSound := by
  refine ⟨_, rfl, ?_⟩
  split
  · exact h
  · exact ite (fun _ => h.timeless ⟨rfl, rfl⟩) fun _ => h

theorem cueFetchReturn (h : s.paceSound) (word) : ∃ t, exec (.cueFetchReturn word) s = .next t ∧ t.paceSound := by
  refine ⟨_, rfl, ?_⟩
  split
  · exact h
  · exact h.timeless ((State.Timeless.refl s).fetchReturned _ word)

theorem faultRecordPlaced (h : s.paceSound) : ∃ t, exec .faultRecordPlaced s = .next t ∧ t.paceSound := by
  refine ⟨_, rfl, ?_⟩
  split
  · exact ite (fun _ => h.timeless (State.Timeless.congr (.refl s))) fun _ => h
  · exact h

theorem holdRelease (h : s.paceSound) : ∃ t, exec .holdRelease s = .next t ∧ t.paceSound := by
  refine ⟨_, rfl, ?_⟩
  split
  · exact h.judgeHeld
  · exact h

theorem waitEnd (h : s.paceSound) : ∃ t, exec .waitEnd s = .next t ∧ t.paceSound := by
  refine ⟨_, rfl, ?_⟩
  split
  · exact h.timeless ((State.Timeless.refl s).setReader _).resume
  · exact h

/-- Every command keeps the Pace Generator coherent: most leave it as it is. -/
theorem exec (h : s.paceSound) (c : Instr) : ∃ t, exec c s = .next t ∧ t.paceSound := by
  have same := State.Timeless.refl s
  cases c with
  | powerOnReset pins => exact ⟨_, rfl, State.paceSound_reset rfl⟩
  | pcieLinkReset pins => exact ⟨_, rfl, State.paceSound_reset rfl⟩
  | start => exact ⟨_, rfl, h.timeless same.commandStart⟩
  | stop => exact ⟨_, rfl, h.timeless same.commandStop⟩
  | reset => exact ⟨_, rfl, State.paceSound_reset rfl⟩
  | causeWrite v => exact ⟨_, rfl, h.writeRegister 0x0C v⟩
  | enableWrite v => exact ⟨_, rfl, h.writeRegister 0x10 v⟩
  | registerWrite offset width v =>
    cases width with
    | word => exact ⟨_, rfl, h.writeRegister _ v⟩
    | byte => exact ⟨_, rfl, h⟩
    | half => exact ⟨_, rfl, h⟩
  | headerReadReturn header => exact h.headerReadReturn header
  | busError a => exact ⟨_, rfl, h.timeless (.ite same.busError same)⟩
  | readTimeout a => exact ⟨_, rfl, h.timeless (.ite same.busError same)⟩
  | referencePulse order => exact ⟨_, rfl, ite (fun present => h.takePulse present order) fun _ => h⟩
  | lossDeadlineExpiry order => exact ⟨_, rfl, ite (fun lost => h.loseDeadline lost _ order) fun _ => h⟩
  | tickTimerExpiry order => exact h.tickTimerExpiry order
  | holdoverLimitReached order => exact h.holdoverLimitReached order
  | silenceExpiry e => exact ⟨_, rfl, h.timeless same.congr⟩
  | huntMarkFound e position mark => exact ⟨_, rfl, h.timeless (same.unlessOff (.ite same.congr same) e _)⟩
  | verifyMark e position mark => exact ⟨_, rfl, h.timeless (same.unlessOff (.ite same.congr same) e _)⟩
  | rowPosition e mark body => exact ⟨_, rfl, h.timeless (same.unlessOff (same.rowAtPosition e mark body) e _)⟩
  | frameHead e head => exact ⟨_, rfl, h.timeless (same.unlessOff (.ite (same.takeHead e head) same) e _)⟩
  | frameTail e tail => exact ⟨_, rfl, h.timeless (same.unlessOff (.ite (same.takeTail e tail) same) e _)⟩
  | fillUnit e fill => exact ⟨_, rfl, h.timeless (same.unlessOff (.ite same.congr same) e _)⟩
  | partnerWaitExpiry => exact ⟨_, rfl, h.timeless (.ite same same.congr)⟩
  | takeCloseCompletion => exact ⟨_, rfl, h.timeless (.ite same.congr same)⟩
  | sampleMessage port c framing => exact ⟨_, rfl, h.timeless (.ite (.ite same.congr same) same)⟩
  | messageDeadlineExpiry port => exact ⟨_, rfl, h.timeless (.ite same.congr same)⟩
  | measurementBegin => exact h.measurementBegin
  | measurementDone => exact h.measurementEnd
  | deliveryStart => exact h.deliveryStart
  | copyCompletion writes => exact h.copyCompletion writes
  | recordWriteAccepted => exact h.recordWriteAccepted
  | consumedReadReturn v => exact ⟨_, rfl, h.timeless (.ite (same.consumedReturned v) same)⟩
  | statusWriteAccepted => exact h.statusWriteAccepted
  | drainingEndReached => exact ⟨_, rfl, h.timeless (.ite (same.congr rfl rfl) same)⟩
  | endOfDraining =>
    exact ⟨_, rfl, h.timeless (.ite (.ite (State.Timeless.enterIdle (.ite same.acceptFinal same)) same) same)⟩
  | cueFetchReturn word => exact h.cueFetchReturn word
  | faultRecordPlaced => exact h.faultRecordPlaced
  | holdRelease => exact h.holdRelease
  | waitEnd => exact h.waitEnd
  | sampleCharacter port c framing => exact ⟨_, rfl, h.timeless (.ite same.congr same)⟩
  | configurationAccess msi busMaster => exact ⟨_, rfl, h.timeless ⟨rfl, rfl⟩⟩
  -- every other command is a cue's
  | _ => exact ⟨_, rfl, h.cueCommand _⟩

/-- The part's own event joins the queue, or the Stamp Counter counts a microsecond (R37). -/
theorem idle (h : s.paceSound) : s.idle.paceSound := by
  obtain ⟨phased, absent⟩ := s.paceSound_iff.1 h
  unfold State.idle
  split
  · exact h
  · exact (State.paceSound_iff _).2 ⟨phased.congr, absent⟩

theorem step (h : s.paceSound) (answer : step s = .next t) : t.paceSound := by
  unfold Machine.step at answer
  split at answer
  · cases answer
    exact h.idle
  · next c rest _ =>
    obtain ⟨u, next, sound⟩ := State.paceSound.exec (s := { s with pending := rest }) h c
    rw [next] at answer
    cases answer
    exact sound

end State.paceSound

end Sys2Proof.Machine

/-- Settles O58: by the commands, of which the pulses, the expiries, PACE, the header's return and the resets alone
touch the Pace Generator. -/
theorem stepKeepsPace : Obligations.StepKeepsPace := by
  unfold Obligations.StepKeepsPace
  exact fun _ _ sound answer => sound.step answer

end

section
/-! SUPPORT. Reference pulses (R38 to R42): the lock run by its table, and what a pulse makes of the part in each pace
state. -/

namespace Sys2Proof.Machine

/-! ### The lock run (R38, R39) -/

theorem consistent_iff (i : Nat) : consistent i = true ↔ 4000 ≤ i ∧ i ≤ 100000 := by simp [consistent]

theorem consistent_false_iff (i : Nat) : consistent i = false ↔ i < 4000 ∨ 100000 < i := by
  rw [← Bool.not_eq_true, consistent_iff]
  omega

theorem nearBase_iff (i base : Nat) : nearBase i base = true ↔ ((i : Int) - base).natAbs * 100 ≤ base :=
  decide_eq_true_iff

section
variable {count i b : Nat} {base : Option Nat}

theorem nextRun_of_inconsistent (h : consistent i = false) : nextRun count base i = (0, none) := by simp [nextRun, h]

theorem nextRun_zero (h : consistent i = true) : nextRun 0 base i = (1, some i) := by simp [nextRun, h]

theorem nextRun_near (h : consistent i = true) (run : count ≠ 0) (near : nearBase i b = true) :
    nextRun count (some b) i = (count + 1, some b) := by simp [nextRun, h, run, near]

theorem nextRun_far (h : consistent i = true) (far : nearBase i b = false) :
    nextRun count (some b) i = (1, some i) := by
  simp [nextRun, h, far]

/-- A run completes lock by its fourth pulse, near its base (R39, R40). -/
theorem nextRun_completes (h : 4 ≤ (nextRun count base i).1) :
    consistent i = true ∧ 3 ≤ count ∧ ∃ b, base = some b ∧ nearBase i b = true := by
  unfold nextRun at h
  have anew : ¬ 4 ≤ 1 := by decide
  split at h
  · exact absurd h (by decide)
  · next inside =>
    split at h
    · exact absurd h anew
    · split at h
      · split at h
        · next b near => exact ⟨by simpa using inside, by simpa using h, b, rfl, near⟩
        · exact absurd h anew
      · exact absurd h anew

end

/-! ### The run that a pulse takes up (R40, log 34) -/

section
variable {g : PaceGenerator} {i : Nat}

/-- Away from the tick that ended HOLDOVER the pulse takes up the run that stands. -/
theorem PaceGenerator.runAfter_of_apart (apart : g.droppedRun = none ∨ g.tickAt ≠ some g.stamp) :
    g.runAfter i = nextRun g.runCount g.runBase i := by
  unfold PaceGenerator.runAfter
  split
  · next dropped =>
    refine if_neg fun meets => apart.elim (fun none => ?_) fun not => not meets.1
    rw [none] at dropped
    cases dropped
  · rfl

/-- Where the run that stood before that tick is not completed, the pulse takes up the run that stands. -/
theorem PaceGenerator.runAfter_of_short (short : ∀ c b, g.droppedRun = some (c, some b) → g.tickAt = some g.stamp →
    consistent i = true → 3 ≤ c → nearBase i b = false) : g.runAfter i = nextRun g.runCount g.runBase i := by
  unfold PaceGenerator.runAfter
  split
  · next r dropped =>
    refine if_neg fun meets => ?_
    obtain ⟨inside, run, b, base, near⟩ := nextRun_completes meets.2
    exact absurd (short r.1 b (by rw [dropped, ← base]) meets.1 inside run) (by rw [near]; decide)
  · rfl

/-- At that tick the pulse completes the run that stood before it. -/
theorem PaceGenerator.runAfter_of_meets {r : Nat × Option Nat} (dropped : g.droppedRun = some r)
    (meets : g.tickAt = some g.stamp) (completes : 4 ≤ (nextRun r.1 r.2 i).1) : g.runAfter i = nextRun r.1 r.2 i := by
  unfold PaceGenerator.runAfter
  rw [dropped]
  exact if_pos ⟨meets, completes⟩

end

/-! ### A pulse in each pace state -/

/-- A pulse noted: its stamp, and the count of inconsistent pulses after an interval `i` (R38). -/
def PaceGenerator.noted (g : PaceGenerator) (i : Nat) : PaceGenerator :=
  { g with previousPulse := some g.stamp }.countPulse i

section
variable {s : State} {t : Stamp} {i : Nat}

theorem PaceGenerator.noted_of_consistent {g : PaceGenerator} (h : consistent i = true) :
    g.noted i = { g with previousPulse := some g.stamp } := if_pos h

theorem PaceGenerator.noted_of_inconsistent {g : PaceGenerator} (h : consistent i = false) :
    g.noted i = { g with previousPulse := some g.stamp, inconsistent := Counter.inc g.inconsistent } :=
  if_neg (by rw [h]; decide)

theorem PaceGenerator.noted_runAfter (g : PaceGenerator) (i j : Nat) : (g.noted i).runAfter j = g.runAfter j := by
  unfold PaceGenerator.noted PaceGenerator.countPulse
  split <;> rfl

theorem PaceGenerator.noted_state (g : PaceGenerator) (i : Nat) : (g.noted i).state = g.state := by
  unfold PaceGenerator.noted PaceGenerator.countPulse
  split <;> rfl

theorem exec_referencePulse_of_present (present : s.straps.referencePresent = true) (order) :
    exec (.referencePulse order) s = .next (s.takePulse order) := congrArg _ (if_pos present)

/-- A pulse with an interval is noted and judged (R38). -/
theorem exec_referencePulse_of_interval (present : s.straps.referencePresent = true)
    (previous : s.pace.previousPulse = some t) (order) (interval : (s.pace.stamp - t).toNat = i) :
    exec (.referencePulse order) s = .next (State.judgedPulse { s with pace := s.pace.noted i } t i order) := by
  rw [exec_referencePulse_of_present present, State.takePulse, previous, ← interval]
  rfl

/-- A pulse in HOLDOVER and FREE seeks lock (R39, R40). -/
theorem exec_referencePulse_seeks (present : s.straps.referencePresent = true)
    (previous : s.pace.previousPulse = some t) (unlocked : s.pace.state = .free ∨ s.pace.state = .holdover) (order)
    (interval : (s.pace.stamp - t).toNat = i) :
    exec (.referencePulse order) s = .next (State.seekLock { s with pace := s.pace.noted i } i order) := by
  rw [exec_referencePulse_of_interval present previous order interval, State.judgedPulse]
  dsimp only
  rw [s.pace.noted_state]
  obtain state | state := unlocked <;> rw [state]

/-- A pulse that completes no lock changes the run (R39). -/
theorem exec_referencePulse_run (present : s.straps.referencePresent = true)
    (previous : s.pace.previousPulse = some t) (unlocked : s.pace.state = .free ∨ s.pace.state = .holdover) (order)
    (interval : (s.pace.stamp - t).toNat = i) {count : Nat} {base : Option Nat}
    (run : s.pace.runAfter i = (count, base)) (short : count < 4) :
    exec (.referencePulse order) s =
      .next { s with pace := { s.pace.noted i with runCount := count, runBase := base } } := by
  rw [exec_referencePulse_seeks present previous unlocked order interval, State.seekLock]
  dsimp only
  rw [s.pace.noted_runAfter, run]
  exact congrArg _ (if_neg (by omega))

/-- A pulse that completes lock (R40). -/
theorem exec_referencePulse_locks (present : s.straps.referencePresent = true)
    (previous : s.pace.previousPulse = some t) (unlocked : s.pace.state = .free ∨ s.pace.state = .holdover) (order)
    (interval : (s.pace.stamp - t).toNat = i) {count : Nat} {base : Option Nat}
    (run : s.pace.runAfter i = (count, base)) (completes : 4 ≤ count) :
    exec (.referencePulse order) s =
      .next (State.completeLock { s with pace := { s.pace.noted i with runCount := count, runBase := base } } i
        order) := by
  rw [exec_referencePulse_seeks present previous unlocked order interval, State.seekLock]
  dsimp only
  rw [s.pace.noted_runAfter, run]
  exact congrArg _ (if_pos completes)

end

end Sys2Proof.Machine

open Sys2Proof Sys2Proof.Machine

/-- Settles O14: the run that the pulse takes up is the one that stands, and it changes by its table. -/
theorem lockRunFollowsPulses : Obligations.LockRunFollowsPulses := by
  unfold Obligations.LockRunFollowsPulses
  refine fun order s => ⟨fun absent => congrArg _ (if_neg (by rw [absent]; decide)), fun present first => ?_, ?_⟩
  · rw [exec_referencePulse_of_present present, State.takePulse, first]
    rfl
  intro t present previous unlocked i g completesNone
  refine ⟨fun outside => ?_, fun least greatest none zero => ?_,
    fun b least greatest none some below base near => ?_, fun b least greatest none some below base far => ?_⟩
  · have inconsistent := (consistent_false_iff i).2 outside
    have run : s.pace.runAfter i = (0, none) :=
      (PaceGenerator.runAfter_of_short fun _ _ _ _ inside => absurd (inconsistent.symm.trans inside) (by decide)).trans
        (nextRun_of_inconsistent inconsistent)
    rw [exec_referencePulse_run present previous unlocked order rfl run (by decide),
      PaceGenerator.noted_of_inconsistent inconsistent]
  all_goals
    have inside := (consistent_iff i).2 ⟨least, greatest⟩
    have taken : s.pace.runAfter i = nextRun s.pace.runCount s.pace.runBase i :=
      PaceGenerator.runAfter_of_short fun c b dropped meets _ run =>
        decide_eq_false (not_le.2 (none c b dropped meets run))
  · rw [zero, nextRun_zero inside] at taken
    rw [exec_referencePulse_run present previous unlocked order rfl taken (by decide),
      PaceGenerator.noted_of_consistent inside]
  · rw [base, nextRun_near inside (by omega) ((nearBase_iff i b).2 near), ← base] at taken
    rw [exec_referencePulse_run present previous unlocked order rfl taken (by omega),
      PaceGenerator.noted_of_consistent inside]
  · rw [base, nextRun_far inside (decide_eq_false (not_le.2 far))] at taken
    rw [exec_referencePulse_run present previous unlocked order rfl taken (by decide),
      PaceGenerator.noted_of_consistent inside]

/-- Settles O15: the run that the pulse takes up is completed, before the limit's tick or after it; and in REFERENCED
the pulse is followed. -/
theorem lockedPulsesTick : Obligations.LockedPulsesTick := by
  unfold Obligations.LockedPulsesTick
  constructor
  · intro order t b s i meets present previous unlocked run least greatest near
    have inside := (consistent_iff i).2 ⟨least, greatest⟩
    have fourth : nextRun 3 (some b) i = (4, some b) := nextRun_near inside (by decide) ((nearBase_iff i b).2 near)
    have taken : s.pace.runAfter i = (4, some b) := by
      obtain ⟨apart, count, base⟩ | ⟨dropped, meets⟩ := run
      · rw [PaceGenerator.runAfter_of_apart apart, count, base, fourth]
      · rw [PaceGenerator.runAfter_of_meets dropped meets (by rw [fourth]), fourth]
    rw [exec_referencePulse_locks present previous unlocked order rfl taken (by decide),
      PaceGenerator.noted_of_consistent inside]
    rfl
  · intro order t s i present previous state least greatest
    have inside := (consistent_iff i).2 ⟨least, greatest⟩
    rw [exec_referencePulse_of_interval present previous order rfl, PaceGenerator.noted_of_consistent inside,
      State.judgedPulse]
    dsimp only
    rw [state, if_pos inside]
    rfl

end

section
/-! SUPPORT. Entry to HOLDOVER, the holdover limit and the tick timer (R42 to R44). -/

namespace Sys2Proof.Machine

section
variable {g : PaceGenerator}

/-- A holdover tick below the limit (R43). -/
theorem PaceGenerator.holdoverTick_counts {p : PaceSetting} (below : inc16 g.holdoverCount < p.holdoverLimit)
    (due next) : g.holdoverTick p due next =
      { g with holdoverCount := inc16 g.holdoverCount, tickAt := some g.stamp, timer := some next } :=
  if_neg (Nat.not_le.2 below)

/-- The holdover tick that reaches the limit (R43, R44). -/
theorem PaceGenerator.holdoverTick_ends {p : PaceSetting} (reached : p.holdoverLimit ≤ inc16 g.holdoverCount)
    (due next) : g.holdoverTick p due next = { g with
      holdoverCount := inc16 g.holdoverCount, tickAt := some g.stamp, state := .free, runCount := 0, runBase := none
      droppedRun := some (g.runCount, g.runBase), timer := some { base := due, wait := p.freePeriod } } :=
  if_pos reached

theorem PaceGenerator.dueTimer_eq_none (early : ∀ tm, g.timer = some tm → (g.stamp - tm.base).toNat < tm.wait) :
    g.dueTimer = none := by
  unfold PaceGenerator.dueTimer
  rw [Option.filter_eq_none_iff]
  exact fun tm timer => mt of_decide_eq_true (Nat.not_le.2 (early tm timer))

theorem PaceGenerator.dueTimer_eq_some {tm : Timer} (timer : g.timer = some tm)
    (due : tm.wait ≤ (g.stamp - tm.base).toNat) : g.dueTimer = some tm := by
  unfold PaceGenerator.dueTimer
  rw [timer]
  exact Option.filter_some_pos (decide_eq_true due)

end

section
variable {s : State} {last : Stamp} {p : Nat}

/-! ### Entry to HOLDOVER (R42) -/

/-- T + P has not passed: no tick. -/
theorem State.enterHoldover_waits (measured : s.pace.measured = some p)
    (early : (s.pace.stamp - last).toNat ≤ p) (order) : s.enterHoldover last order =
      ({ s with pace := { s.pace.beginHoldover with timer := some { base := last, wait := p } } } : State).setCause
        .pace := by
  unfold State.enterHoldover
  rw [measured]
  exact if_neg (Nat.not_lt.2 early)

/-- T + P has passed: one tick, counted. -/
theorem State.enterHoldover_counts (measured : s.pace.measured = some p) (passed : p < (s.pace.stamp - last).toNat)
    (below : 1 < s.settings.pace.holdoverLimit) (order) : s.enterHoldover last order =
      (({ s with pace := { s.pace.beginHoldover with
          holdoverCount := 1, tickAt := some s.pace.stamp, timer := some { base := last, wait := 2 * p } } } :
        State).tick order).setCause .pace := by
  have limit : (s.onPace PaceGenerator.beginHoldover).limitNext = false := decide_eq_false (Nat.not_le.2 below)
  have late : (some p).getD 0 < elapsed s.now last := passed
  unfold State.enterHoldover
  dsimp only
  rw [measured, if_pos late, limit, if_neg (by decide)]
  unfold State.onPace
  dsimp only
  rw [PaceGenerator.holdoverTick_counts (g := s.pace.beginHoldover) (p := s.settings.pace) below]
  rfl

/-- T + P has passed, and the limit is 1: the tick is the last of HOLDOVER. -/
theorem State.enterHoldover_ends (measured : s.pace.measured = some p) (passed : p < (s.pace.stamp - last).toNat)
    (reached : s.settings.pace.holdoverLimit ≤ 1) (order) : s.enterHoldover last order =
      ((({ s with pace := { s.pace.beginHoldover with
          holdoverCount := 1, state := .free, tickAt := some s.pace.stamp, droppedRun := some (0, none)
          timer := some { base := s.pace.stamp, wait := s.settings.pace.freePeriod } } } :
        State).setCause .pace).tick order).setCause .pace := by
  have limit : (s.onPace PaceGenerator.beginHoldover).limitNext = true := decide_eq_true reached
  have late : (some p).getD 0 < elapsed s.now last := passed
  unfold State.enterHoldover
  dsimp only
  rw [measured, if_pos late, limit, if_pos rfl]
  unfold State.onPace
  dsimp only
  rw [PaceGenerator.holdoverTick_ends (g := s.pace.beginHoldover) (p := s.settings.pace) reached]
  rfl

/-- The loss deadline ends REFERENCED on the phase of the last good pulse. -/
theorem exec_lossDeadlineExpiry_lost (state : s.pace.state = .referenced) (previous : s.pace.previousPulse = some last)
    {d : Timer} (armed : s.pace.deadline = some d) (due : d.wait ≤ (s.pace.stamp - d.base).toNat) (order) :
    exec (.lossDeadlineExpiry order) s = .next (s.enterHoldover last order) := by
  have lost : s.pace.lost = true := by
    rw [PaceGenerator.lost, state, armed]
    exact decide_eq_true due
  have entered : exec (.lossDeadlineExpiry order) s =
      .next (s.enterHoldover (s.pace.previousPulse.getD 0#48) order) := congrArg _ (if_pos lost)
  rw [entered, previous]
  rfl

/-- An inconsistent pulse ends REFERENCED, on the phase of the pulse before it. -/
theorem exec_referencePulse_inconsistent (present : s.straps.referencePresent = true)
    (previous : s.pace.previousPulse = some last) (state : s.pace.state = .referenced)
    (inconsistent : consistent (s.pace.stamp - last).toNat = false) (order) :
    exec (.referencePulse order) s = .next (State.enterHoldover
      { s with pace := { s.pace with
          previousPulse := some s.pace.stamp, inconsistent := Counter.inc s.pace.inconsistent } } last order) := by
  rw [exec_referencePulse_of_interval present previous order rfl, PaceGenerator.noted_of_inconsistent inconsistent,
    State.judgedPulse]
  dsimp only
  rw [state, inconsistent, if_neg (by decide)]

/-! ### The tick timer (R43, R44) -/

/-- Before the timer is due neither of its commands has an effect (log 2). -/
theorem exec_timer_early (early : s.pace.dueTimer = none) (order) :
    exec (.tickTimerExpiry order) s = .next s ∧ exec (.holdoverLimitReached order) s = .next s := by
  change Host.Outcome.next _ = _ ∧ Host.Outcome.next _ = _
  rw [early]
  exact ⟨rfl, rfl⟩

theorem exec_tickTimerExpiry_due {tm : Timer} (due : s.pace.dueTimer = some tm) (order) :
    exec (.tickTimerExpiry order) s = .next (s.timerTick tm order) := by
  change Host.Outcome.next _ = _
  rw [due]

theorem exec_holdoverLimitReached_due {tm : Timer} (due : s.pace.dueTimer = some tm) (state : s.pace.state = .holdover)
    (limit : s.settings.pace.holdoverLimit ≤ inc16 s.pace.holdoverCount) (order) :
    exec (.holdoverLimitReached order) s = .next (s.timerTick tm order) := by
  change Host.Outcome.next _ = _
  rw [due]
  exact congrArg _ (if_pos ⟨state, decide_eq_true limit⟩)

theorem State.timerTick_free (state : s.pace.state = .free) (tm : Timer) (order) : s.timerTick tm order =
    ({ s with pace := { s.pace with
      tickAt := some s.pace.stamp, droppedRun := none
      timer := some { base := later tm.base tm.wait, wait := s.settings.pace.freePeriod } } } : State).tick order := by
  unfold State.timerTick State.onPace PaceGenerator.timerTick
  dsimp only
  rw [state, if_neg (by simp)]

theorem State.timerTick_holdover (state : s.pace.state = .holdover)
    (below : inc16 s.pace.holdoverCount < s.settings.pace.holdoverLimit) (tm : Timer) (order) : s.timerTick tm order =
    ({ s with pace := { s.pace with
      holdoverCount := inc16 s.pace.holdoverCount, tickAt := some s.pace.stamp
      timer := some { base := later tm.base tm.wait, wait := s.pace.measured.getD 0 } } } : State).tick order := by
  have limit : s.limitNext = false := decide_eq_false (Nat.not_le.2 below)
  unfold State.timerTick State.onPace PaceGenerator.timerTick
  dsimp only
  rw [limit, if_neg (by simp), state]
  dsimp only
  rw [PaceGenerator.holdoverTick_counts below, state]

theorem State.timerTick_limit (state : s.pace.state = .holdover)
    (reached : s.settings.pace.holdoverLimit ≤ inc16 s.pace.holdoverCount) (tm : Timer) (order) : s.timerTick tm order =
    (({ s with pace := { s.pace with
      holdoverCount := inc16 s.pace.holdoverCount, state := .free, runCount := 0, runBase := none
      tickAt := some s.pace.stamp, droppedRun := some (s.pace.runCount, s.pace.runBase)
      timer := some { base := later tm.base tm.wait, wait := s.settings.pace.freePeriod } } } : State).setCause
        .pace).tick order := by
  have limit : s.limitNext = true := decide_eq_true reached
  unfold State.timerTick State.onPace PaceGenerator.timerTick
  dsimp only
  rw [if_pos ⟨state, limit⟩, state]
  dsimp only
  rw [PaceGenerator.holdoverTick_ends reached]

end

end Sys2Proof.Machine

open Sys2Proof Sys2Proof.Machine

/-- Settles O16: both ways out of REFERENCED enter HOLDOVER on the phase of the last good pulse, a pulse being noted
first. -/
theorem holdoverBegins : Obligations.HoldoverBegins := by
  unfold Obligations.HoldoverBegins
  intro order last p s state previous measured c leaves begun
  obtain ⟨g, entered, begins, period, now⟩ : ∃ g : PaceGenerator,
      exec c s = .next (State.enterHoldover { s with pace := g } last order) ∧ g.beginHoldover = begun ∧
        g.measured = some p ∧ g.stamp = s.pace.stamp := by
    obtain ⟨rfl, d, armed, due⟩ | ⟨rfl, present, outside⟩ := leaves
    · exact ⟨s.pace, exec_lossDeadlineExpiry_lost state previous armed due order,
        by simp [begun, PaceGenerator.beginHoldover, previous], measured, rfl⟩
    · exact ⟨_, exec_referencePulse_inconsistent present previous state ((consistent_false_iff _).2 outside) order,
        by simp [begun, PaceGenerator.beginHoldover], measured, rfl⟩
  rw [entered, ← begins, ← now]
  exact ⟨fun early => congrArg _ (State.enterHoldover_waits (s := { s with pace := g }) period early order),
    fun passed below => congrArg _ (State.enterHoldover_counts (s := { s with pace := g }) period passed below order),
    fun passed reached => congrArg _ (State.enterHoldover_ends (s := { s with pace := g }) period passed reached order)⟩

/-- Settles O17: by the pace state in which the timer comes due. -/
theorem timerTicks : Obligations.TimerTicks := by
  unfold Obligations.TimerTicks
  refine fun order s => ⟨fun early => exec_timer_early (PaceGenerator.dueTimer_eq_none early) order, ?_⟩
  intro tm timer elapsed due count
  have now := PaceGenerator.dueTimer_eq_some timer elapsed
  refine ⟨fun state => ?_, fun state below => ?_, fun state reached => ?_⟩
  · rw [exec_tickTimerExpiry_due now, State.timerTick_free state]
    rfl
  · rw [exec_tickTimerExpiry_due now, State.timerTick_holdover state below]
    rfl
  · rw [exec_tickTimerExpiry_due now, exec_holdoverLimitReached_due now state reached,
      State.timerTick_limit state reached]
    exact ⟨rfl, rfl⟩

end

section
/-! SUPPORT. The cues MATCH, TRACK, SAMPLES and PACE (R175 to R178). -/

namespace Sys2Proof.Machine

section
variable {s : State}

/-- The command of a cue that stands ready performs it. -/
theorem exec_of_standsReady {c : Cue} (ready : s.standsReady c) : exec (cueInstr c.name) s = .next (s.perform c) := by
  rw [exec_cueInstr, State.cueCommand_ready ready]

theorem State.isWaiting_iff (s : State) (e : Eye) : s.isWaiting e = true ↔ (s.head e).isSome ∧
    (s.matcher.mark e).expired = false ∧ s.store.queue (otherEye e) = [] ∧
      (s.receiver (otherEye e)).sync = .frameLock := by
  simp only [State.isWaiting, Bool.and_eq_true, Bool.not_eq_true', List.isEmpty_iff, beq_iff_eq, and_assoc]

theorem State.expireReached_mark (s : State) (e : Eye) : s.expireReached.matcher.mark e = s.lowerMark e := by
  cases e <;> rfl

/-- A waiting head whose count has reached the partner wait expires (R55, R70). -/
theorem State.lowerMark_reached {e : Eye} (waiting : s.isWaiting e = true)
    (reached : s.settings.matching.partnerWait ≤ (s.matcher.mark e).count) :
    s.lowerMark e = ⟨(s.matcher.mark e).count, true⟩ := by
  unfold State.lowerMark
  exact if_pos (by simpa [waiting] using reached)

/-- Every other mark stays. -/
theorem State.lowerMark_stays {e : Eye}
    (not : ¬ (s.isWaiting e = true ∧ s.settings.matching.partnerWait ≤ (s.matcher.mark e).count)) :
    s.lowerMark e = s.matcher.mark e := by
  unfold State.lowerMark
  exact if_neg (by simpa using not)

end

end Sys2Proof.Machine

open Sys2Proof Sys2Proof.Machine

/-- Settles O48: each cue performs its effect, which is the one written out. -/
theorem settingCuesExecute : Obligations.SettingCuesExecute := by
  unfold Obligations.SettingCuesExecute
  refine fun s => ⟨?_, ?_, fun x ready => exec_of_standsReady ready, ?_⟩
  · intro m ready reached
    have waits : ∀ e, reached e ↔ (s.onSettings fun x => { x with matching := m }).isWaiting e = true ∧
        m.partnerWait ≤ (s.matcher.mark e).count := fun e => by
      rw [State.isWaiting_iff, and_assoc, and_assoc, and_assoc]
      exact Iff.rfl
    refine ⟨(s.onSettings fun x => { x with matching := m }).expireReached, rfl,
      fun e => ⟨fun now => ?_, fun not => ?_⟩, exec_of_standsReady ready⟩
    · rw [State.expireReached_mark]
      exact State.lowerMark_reached ((waits e).1 now).1 ((waits e).1 now).2
    · rw [State.expireReached_mark]
      exact State.lowerMark_stays (mt (waits e).2 not)
  · intro x ready range clear tracker
    have tracks : s.align.onTrack s.settings.track.mode x s.settings.probes.range = tracker := by
      unfold AlignmentUnit.onTrack
      dsimp only [tracker]
      cases s.settings.track.mode <;> cases x.mode <;> rfl
    rw [← tracks]
    exact exec_of_standsReady ready
  · exact fun p ready => exec_of_standsReady ready

end

section
/-! SUPPORT. The part's own events, each kind as a list of what is due, in its order (log 3). -/

namespace Sys2Proof.Machine

/-! ### First due -/

/-- The first due of a list found by a test. -/
theorem find?_map_eq_findSome? {α : Type} (p : α → Bool) (f : α → Instr) (l : List α) :
    (l.find? p).map f = (l.map fun a => dueIf (p a) (f a)).findSome? id := by
  induction l with
  | nil => rfl
  | cons a l ih =>
    rw [List.find?_cons, List.map_cons, List.findSome?_cons]
    cases p a
    · exact ih
    · rfl

/-- Two conditions in a row, the second for what the first leaves. -/
theorem dueIf_ite (p q : Bool) (c d : Instr) :
    dueIf p (if q then c else d) = [dueIf (p && q) c, dueIf p d].findSome? id := by
  cases p <;> cases q <;> rfl

/-! ### The Bus Port (R196) -/

theorem RegisterWindow.accesses_eq (r : RegisterWindow) :
    r.accesses = (r.run == .starting || r.run == .running || r.run == .draining) := by
  unfold RegisterWindow.accesses
  cases r.run <;> rfl

/-- A write fails where it is in flight, in its turn and with bus mastering off. -/
theorem State.fails_eq (s : State) {a : Access} (write : s.readIssued a = none) :
    (s.writeInFlight a && s.canFail a) =
      (s.regs.accesses && (s.writeInFlight a && s.inTurn a) && !s.regs.busMaster) := by
  unfold State.canFail
  rw [write]
  cases s.writeInFlight a <;> cases s.regs.accesses <;> cases s.inTurn a <;> rfl

theorem State.failingWrite_eq (s : State) : s.failingWrite = [
    dueIf (s.regs.accesses && s.delivery.copy.isSome && !s.regs.busMaster) (.busError .targetWrite),
    dueIf (s.regs.accesses && (s.writer.recordWrite.isSome && s.writer.inTurn .recordWrite) && !s.regs.busMaster)
      (.busError .recordWrite),
    dueIf (s.regs.accesses && (s.writer.statusWrite.isSome && s.writer.inTurn .statusWrite) && !s.regs.busMaster)
      (.busError .statusWrite)].findSome? id := by
  have target := s.fails_eq (a := .targetWrite) rfl
  rw [State.inTurn, Bool.and_true] at target
  rw [State.failingWrite, find?_map_eq_findSome?]
  simp only [List.map_cons, List.map_nil]
  rw [target, s.fails_eq (a := .recordWrite) rfl, s.fails_eq (a := .statusWrite) rfl]
  rfl

/-- A read times out 50,000 µs after its issue. -/
theorem State.dueIf_timedOut (s : State) (a : Access) : dueIf (s.timedOut a) (.readTimeout a) =
    (match s.readIssued a with
      | some t => dueIf (s.regs.accesses && decide (50000 ≤ (s.pace.stamp - t).toNat)) (.readTimeout a)
      | none => none) := by
  unfold State.timedOut
  cases s.readIssued a
  · rw [Bool.and_false]; rfl
  · rfl

theorem State.dueTimeout_eq (s : State) : s.dueTimeout = [dueIf (s.timedOut .headerRead) (.readTimeout .headerRead),
    dueIf (s.timedOut .cueFetch) (.readTimeout .cueFetch),
    dueIf (s.timedOut .consumedRead) (.readTimeout .consumedRead)].findSome? id :=
  find?_map_eq_findSome? _ _ _

/-! ### Owed ticks (log 5, log 6) -/

theorem State.owedTicks_eq (s : State) : s.owedTicks = [
    dueIf s.left.tickOwed (.silenceExpiry .left), dueIf s.right.tickOwed (.silenceExpiry .right),
    dueIf (s.matcher.tickOwed && s.matcher.state != .stopped &&
      (s.matcher.take == .closing && s.takeOwedTick.matcher.take == .closed && !s.wouldExpire .left &&
        !s.wouldExpire .right)) .takeCloseCompletion,
    dueIf (s.matcher.tickOwed && s.matcher.state != .stopped) .partnerWaitExpiry].findSome? id := by
  unfold State.owedTicks State.owedMatcher
  rw [dueIf_ite, Option.orElse_eq_or, Option.orElse_eq_or]
  cases s.left.tickOwed <;> cases s.right.tickOwed <;> rfl

theorem exec_partnerWaitExpiry_running {s : State} (running : s.matcher.state ≠ .stopped) :
    exec .partnerWaitExpiry s = .next s.takeOwedTick := congrArg _ (if_neg running)

/-! ### Measurements, deliveries and the end of DRAINING -/

theorem RegisterWindow.measures_eq (r : RegisterWindow) :
    r.measures = (r.run == .running || r.run == .halted || (r.run == .starting && r.startedHalted)) := by
  unfold RegisterWindow.measures
  cases r.run <;> rfl

theorem State.dueMeasurement_eq (s : State) : s.dueMeasurement =
    (match s.align.busy with
      | some p => dueIf (decide (100 ≤ (s.pace.stamp - p.begun).toNat)) .measurementDone
      | none => dueIf (s.align.looking && s.regs.measures && s.matcher.table.any fun x => x.state == .measuring)
          .measurementBegin) := by
  unfold State.dueMeasurement State.canMeasure PairMatcher.oldestMeasuring
  cases s.align.busy with
  | some p => rfl
  | none => rw [List.isSome_find?, Option.isNone_none, Bool.and_true]

theorem PairMatcher.oldestReady_isSome (m : PairMatcher) : m.oldestReady.isSome =
    (match m.table with
      | x :: _ => x.state == .ready && x.disposition == .deliver
      | [] => false) := by
  unfold PairMatcher.oldestReady
  cases m.table with
  | nil => rfl
  | cons x rest =>
    dsimp only
    split
    · next ready => rw [ready.1, ready.2]; rfl
    · next not =>
      rw [Option.isSome_none, eq_comm]
      simpa only [Bool.and_eq_false_iff, beq_eq_false_iff_ne, ne_eq, not_and_or] using not

theorem State.dueDelivery_eq (s : State) : s.dueDelivery =
    dueIf (s.regs.run == .running && s.delivery.copy.isNone && s.writer.canReserve && s.matcher.oldestReady.isSome &&
      !s.delivery.targets.isEmpty) .deliveryStart := by
  unfold State.dueDelivery State.canDeliver
  rw [Bool.and_comm (_ && _) (s.regs.run == .running), ← Bool.and_assoc (s.regs.run == .running)]

theorem State.dueDraining_eq (s : State) : s.dueDraining = [dueIf s.drained .drainingEndReached,
    dueIf (s.regs.run == .draining && s.drainComplete) .endOfDraining].findSome? id := by
  unfold State.dueDraining
  rw [Option.orElse_eq_or]
  cases s.drained <;> cases (s.regs.run == .draining && s.drainComplete) <;> rfl

/-! ### Deadlines and timers -/

/-- A tick of the timer is due where the timer has come due. -/
theorem PaceGenerator.dueTimer_map (g : PaceGenerator) (c : Instr) : (g.dueTimer.map fun _ => c) =
    (match g.timer with
      | some t => dueIf (decide (t.wait ≤ (g.stamp - t.base).toNat)) c
      | none => none) := by
  unfold PaceGenerator.dueTimer
  cases g.timer with
  | none => rfl
  | some t =>
    dsimp only
    by_cases due : t.wait ≤ (g.stamp - t.base).toNat
    · rw [Option.filter_some_pos (p := (Timer.due · g.stamp)) (decide_eq_true due), decide_eq_true due]
      rfl
    · rw [Option.filter_some_neg (p := (Timer.due · g.stamp)) (decide_eq_false due), decide_eq_false due]
      rfl

theorem PaceGenerator.dueIf_lost (g : PaceGenerator) (c : Instr) : dueIf g.lost c =
    (match g.deadline with
      | some d => dueIf (g.state == .referenced && decide (d.wait ≤ (g.stamp - d.base).toNat)) c
      | none => none) := by
  unfold PaceGenerator.lost
  cases g.deadline
  · rw [Bool.and_false]; rfl
  · rfl

theorem State.duePace_eq (s : State) : s.duePace = [dueIf s.pace.lost (.lossDeadlineExpiry []),
    s.pace.dueTimer.map fun _ =>
      if s.pace.state = .holdover ∧ s.limitNext then .holdoverLimitReached []
      else .tickTimerExpiry []].findSome? id := by
  unfold State.duePace
  rw [Option.orElse_eq_or]
  simp only [← apply_ite some]
  cases dueIf s.pace.lost (.lossDeadlineExpiry []) <;> cases s.pace.dueTimer <;> rfl

theorem State.limitNext_iff (s : State) :
    s.limitNext = true ↔ s.settings.pace.holdoverLimit ≤ min (s.pace.holdoverCount + 1) 65535 := decide_eq_true_iff

theorem State.dueMessage_eq (s : State) : s.dueMessage = [
    dueIf (s.leftLens.overdue s.now) (.messageDeadlineExpiry .leftLens),
    dueIf (s.rightLens.overdue s.now) (.messageDeadlineExpiry .rightLens),
    dueIf (s.rig.overdue s.now) (.messageDeadlineExpiry .rig)].findSome? id := find?_map_eq_findSome? _ _ _

theorem SamplePort.dueIf_overdue (p : SamplePort) (now : Stamp) (c : Instr) : dueIf (p.overdue now) c =
    (match p.reception with
      | .collecting start _ => dueIf (decide (2000 ≤ (now - start).toNat)) c
      | .awaiting => none) := by
  unfold SamplePort.overdue
  cases p.reception <;> rfl

/-- A command put on the empty queue, or a microsecond. -/
theorem step_of_empty {s : State} (empty : s.pending = []) : step s = .next s.idle := by
  unfold step
  rw [empty]

/-- The own event that is due is the first one due in the lists of the nine kinds. -/
theorem State.ownEvent_append {s : State} {write ticks draining pace message timeout : List (Option Instr)}
    (hwrite : s.failingWrite = write.findSome? id) (hticks : s.owedTicks = ticks.findSome? id)
    (hdraining : s.dueDraining = draining.findSome? id) (hpace : s.duePace = pace.findSome? id)
    (hmessage : s.dueMessage = message.findSome? id) (htimeout : s.dueTimeout = timeout.findSome? id) :
    s.ownEvent = (write ++ (ticks ++ ([s.dueReader, s.dueMeasurement, s.dueDelivery] ++ (draining ++ (pace ++
      (message ++ timeout)))))).findSome? id := by
  have cons : ∀ (x : Option Instr) (l : List (Option Instr)), (x :: l).findSome? id = x.or (l.findSome? id) :=
    fun x _ => by cases x <;> rfl
  simp only [State.ownEvent, Option.orElse_eq_or, hwrite, hticks, hdraining, hpace, hmessage, htimeout,
    List.findSome?_append, List.cons_append, List.nil_append, cons]

end Sys2Proof.Machine

open Sys2Proof Sys2Proof.Machine

/-- Settles O2: each kind of own event is the list of what is due in it, in its order. -/
theorem emptyQueueStep : Obligations.EmptyQueueStep := by
  unfold Obligations.EmptyQueueStep
  refine ⟨fun s empty => ⟨fun c event => ?_, fun none => ?_⟩, rfl, ?_⟩
  · rw [step_of_empty empty, State.idle, event]
  · rw [step_of_empty empty, State.idle, none]
    rfl
  intro s m w due since room accesses fails owes expires closes readerEvent looks measurement oldestReady quiet draining
    loss timer deadline timeout
  have accesses_eq : s.regs.accesses = accesses := s.regs.accesses_eq
  have write : s.failingWrite = [fails .targetWrite s.delivery.copy.isSome,
      fails .recordWrite (w.recordWrite.isSome && w.inTurn .recordWrite),
      fails .statusWrite (w.statusWrite.isSome && w.inTurn .statusWrite)].findSome? id := by
    rw [State.failingWrite_eq, accesses_eq]
    rfl
  have closing : (owes && closes) = (owes && (m.take == .closing && s.takeOwedTick.matcher.take == .closed)) := by
    by_cases running : m.state = .stopped
    · simp [owes, running]
    · dsimp only [closes]
      rw [exec_partnerWaitExpiry_running running]
  have ticks : s.owedTicks = [due s.left.tickOwed (.silenceExpiry .left), due s.right.tickOwed (.silenceExpiry .right),
      due (owes && closes && !expires .left && !expires .right) .takeCloseCompletion,
      due owes .partnerWaitExpiry].findSome? id := by
    rw [State.owedTicks_eq, closing]
    simp only [← Bool.and_assoc]
    rfl
  have reader : s.dueReader = readerEvent := by
    unfold State.dueReader State.releasable
    dsimp only [readerEvent]
    cases s.reader.state with
    | held reason => cases s.verdict <;> rfl
    | _ => rfl
  have measures : s.dueMeasurement = measurement := by
    rw [State.dueMeasurement_eq, s.regs.measures_eq]
    rfl
  have delivery : s.dueDelivery = due (s.regs.run == .running && s.delivery.copy.isNone && room && oldestReady &&
      !s.delivery.targets.isEmpty) .deliveryStart := by
    rw [State.dueDelivery_eq, PairMatcher.oldestReady_isSome]
    rfl
  have drains : s.dueDraining = [due (draining && !s.regs.drainedStarting && w.final == .notReached && quiet &&
        (w.held.isEmpty || w.state == .waiting)) .drainingEndReached,
      due (draining && s.regs.headerRead.isNone && (w.final == .accepted || s.regs.drainedStarting))
        .endOfDraining].findSome? id := by
    rw [State.dueDraining_eq, State.drainComplete, ← Bool.and_assoc]
    rfl
  have paces : s.duePace = [loss, timer].findSome? id := by
    rw [State.duePace_eq, PaceGenerator.dueIf_lost, PaceGenerator.dueTimer_map]
    simp only [State.limitNext_iff]
    rfl
  have message : s.dueMessage = [deadline .leftLens, deadline .rightLens, deadline .rig].findSome? id := by
    rw [State.dueMessage_eq]
    simp only [SamplePort.dueIf_overdue]
    rfl
  have timeouts : s.dueTimeout = [timeout .headerRead (s.regs.headerRead.map (·.issued)),
      timeout .cueFetch (s.reader.fetch.map (·.issued)),
      timeout .consumedRead (w.consumedRead.map (·.issued))].findSome? id := by
    rw [State.dueTimeout_eq]
    simp only [State.dueIf_timedOut, accesses_eq]
    rfl
  rw [State.ownEvent_append write ticks drains paces message timeouts, reader, measures, delivery]
  rfl

end

section
/-! SUPPORT. What each block does at a pace tick, and that every block takes it once (R47). -/

namespace Sys2Proof.Machine

/-! ### Every observer, once -/

theorem nodup_eraseDups : ∀ l : List TickObserver, l.eraseDups.Nodup
  | [] => List.nodup_nil
  | o :: l => by
    rw [List.eraseDups_cons]
    exact List.nodup_cons.2 ⟨by simp, nodup_eraseDups _⟩
termination_by l => l.length
decreasing_by exact Nat.lt_succ_of_le (List.length_filter_le _ _)

theorem eraseDups_of_nodup (l : List TickObserver) (h : l.Nodup) : l.eraseDups = l := by
  induction l with
  | nil => rfl
  | cons o l ih =>
    obtain ⟨new, rest⟩ := List.nodup_cons.1 h
    have others : (l.filter fun b => !b == o) = l :=
      List.filter_eq_self.2 fun x among => by simpa using fun same : x = o => new (same ▸ among)
    rw [List.eraseDups_cons, others, ih rest]

theorem mem_allObservers (o : TickObserver) : o ∈ allObservers := by
  cases o with
  | linkReceiver e => cases e <;> decide
  | samplePort p => cases p <;> decide
  | _ => decide

theorem mem_leftOut (order : List TickObserver) (o : TickObserver) : o ∈ leftOut order ↔ o ∉ order := by
  simp [leftOut, mem_allObservers]

/-- The observers named and those left out are the eight, once each. -/
theorem observers_perm (order : List TickObserver) : (order.eraseDups ++ leftOut order).Perm allObservers := by
  have later : (leftOut order).Nodup := List.Nodup.filter _ (by decide)
  have apart : ∀ a ∈ order.eraseDups, ∀ b ∈ leftOut order, a ≠ b := fun a named b left same =>
    (mem_leftOut order b).1 left (same ▸ List.mem_eraseDups.1 named)
  refine (List.perm_ext_iff_of_nodup (List.nodup_append.2 ⟨nodup_eraseDups order, later, apart⟩) (by decide)).2
    fun o => ?_
  rw [List.mem_append, List.mem_eraseDups, mem_leftOut]
  exact iff_of_true (em _) (mem_allObservers o)

/-! ### The Sample Ports (R86) -/

theorem SamplePort.age_age (p : SamplePort) (now : Stamp) (maxAge : Nat) :
    (p.age now maxAge).age now maxAge = p.age now maxAge := by simp [SamplePort.age]

section
variable (s : State) (port : PortId)

theorem State.takeTick_port : s.takeTick.port port = s.port port := by
  unfold State.takeTick State.advanceWaits
  cases port <;> simp

theorem State.takeOwedTick_port : s.takeOwedTick.port port = s.port port := by
  unfold State.takeOwedTick
  split
  · rw [State.takeTick_port]
    cases port <;> rfl
  · rfl

theorem State.matcherTick_port : s.matcherTick.port port = s.port port := by
  unfold State.matcherTick
  split
  · rfl
  · rw [State.takeTick_port, State.takeOwedTick_port]

theorem State.matcherTickLater_port : s.matcherTickLater.port port = s.port port := by
  unfold State.matcherTickLater State.oweMatcherTick
  split
  · rfl
  · split
    · rw [← s.takeOwedTick_port]
      cases port <;> rfl
    · rw [State.takeTick_port, State.takeOwedTick_port]

theorem State.readerTick_port : s.readerTick.port port = s.port port := by
  unfold State.readerTick
  split
  · split <;> cases port <;> rfl
  · cases port <;> rfl

theorem State.writerTick_port : s.writerTick.port port = s.port port := by
  unfold State.writerTick State.issueConsumed
  split <;> cases port <;> rfl

theorem State.statusTick_port : s.statusTick.port port = s.port port := by
  unfold State.statusTick State.statusOrSkip State.issueStatus
  (repeat' split) <;> cases port <;> rfl

/-- A port ages at its own tick, and no other block touches it. -/
theorem State.observe_port (o : TickObserver) : (s.observe o).port port =
    if o = .samplePort port then (s.port port).age s.now s.settings.samples.maxAge else s.port port := by
  cases o with
  | linkReceiver e => cases port <;> simp [State.observe]
  | samplePort p => cases p <;> cases port <;> simp [State.observe, State.ageSamples]
  | pairMatcher => exact s.matcherTick_port port
  | cueReader => exact s.readerTick_port port
  | resultWriter => exact (s.writerTick.statusTick_port port).trans (s.writerTick_port port)

theorem State.observeLater_port (o : TickObserver) : (s.observeLater o).port port =
    if o = .samplePort port then (s.port port).age s.now s.settings.samples.maxAge else s.port port := by
  cases o with
  | linkReceiver e => cases port <;> simp [State.observeLater]
  | pairMatcher => exact s.matcherTickLater_port port
  | samplePort p => exact s.observe_port port (.samplePort p)
  | cueReader => exact s.observe_port port .cueReader
  | resultWriter => exact s.observe_port port .resultWriter

/-- A port ages once over any list of blocks that holds it. -/
theorem State.foldl_port {f : State → TickObserver → State} (pace : ∀ s o, (f s o).pace = s.pace)
    (settings : ∀ s o, (f s o).settings = s.settings)
    (ages : ∀ s o, (f s o).port port =
      if o = .samplePort port then (s.port port).age s.now s.settings.samples.maxAge else s.port port)
    (l : List TickObserver) : (l.foldl f s).port port =
      if .samplePort port ∈ l then (s.port port).age s.now s.settings.samples.maxAge else s.port port := by
  induction l generalizing s with
  | nil => rfl
  | cons o l ih =>
    have now : (f s o).now = s.now := congrArg (·.stamp) (pace s o)
    rw [List.foldl_cons, ih, ages, now, settings]
    by_cases own : o = .samplePort port <;> by_cases among : .samplePort port ∈ l
    · rw [if_pos among, if_pos own, if_pos (List.mem_cons_of_mem o among), SamplePort.age_age]
    · rw [if_neg among, if_pos own, if_pos (own ▸ List.mem_cons_self)]
    · rw [if_pos among, if_neg own, if_pos (List.mem_cons_of_mem o among)]
    · rw [if_neg among, if_neg own, if_neg fun all => (List.mem_cons.1 all).elim (Ne.symm own) among]

/-- A tick ages every port once, whatever the order. -/
theorem State.tick_port (order : List TickObserver) :
    (s.tick order).port port = (s.port port).age s.now s.settings.samples.maxAge := by
  have pace : ((order.eraseDups).foldl State.observe s).pace = s.pace :=
    List.foldlRecOn (motive := fun t : State => t.pace = s.pace) _ _ rfl fun t same o _ => (t.observe_pace o).trans same
  have settings : ((order.eraseDups).foldl State.observe s).settings = s.settings :=
    List.foldlRecOn (motive := fun t : State => t.settings = s.settings) _ _ rfl fun t same o _ =>
      (t.observe_settings o).trans same
  have now : ((order.eraseDups).foldl State.observe s).now = s.now := congrArg (·.stamp) pace
  unfold State.tick
  rw [State.foldl_port _ port State.observeLater_pace State.observeLater_settings fun s => s.observeLater_port port,
    State.foldl_port s port State.observe_pace State.observe_settings fun s => s.observe_port port, now, settings]
  by_cases named : .samplePort port ∈ order
  · rw [if_neg (mt (mem_leftOut order _).1 (not_not.2 named)), if_pos (List.mem_eraseDups.2 named)]
  · rw [if_pos ((mem_leftOut order _).2 named), if_neg (mt List.mem_eraseDups.1 named)]

end

/-! ### The Cue Reader (R151, R154) -/

section
variable {s : State}

theorem State.observe_cueReader_parked (parked : s.reader.state = .parked) (free : s.reader.fetch = none) :
    s.observe .cueReader = s.onReader fun r => r.lookAgain s.regs.bases.cueBase s.now := by
  unfold State.observe State.readerTick
  rw [parked, free]
  rfl

theorem State.observe_cueReader_fetching (parked : s.reader.state = .parked) (busy : s.reader.fetch.isSome) :
    s.observe .cueReader = s := by
  unfold State.observe State.readerTick
  rw [parked]
  exact if_neg (by simpa [Option.isNone_iff_eq_none, Option.isSome_iff_ne_none] using busy)

/-- A reader that is not PARKED and waits for no ticks takes none. -/
theorem State.observe_cueReader_idle (unparked : s.reader.state ≠ .parked)
    (idle : ∀ n k, s.reader.state ≠ .waiting (.ticks n) k false) : s.observe .cueReader = s := by
  have same : s.reader.reportTick = s.reader := by
    unfold CueReader.reportTick
    split
    · next waits => exact absurd waits (idle _ _)
    · rfl
  unfold State.observe State.readerTick
  dsimp only
  split
  · next parked => exact absurd parked unparked
  · unfold State.onReader
    rw [same]

/-! ### The Result Writer (R128, R132) -/

/-- A WAITING writer in RUNNING with no consumed read in flight issues one. -/
theorem State.writerTick_eq (s : State) : s.writerTick =
    if s.writer.state = .waiting ∧ s.regs.run = .running ∧ s.writer.consumedRead = none then
      { s with writer := { s.writer with
          consumedRead := some { address := s.regs.bases.consumedAddress, issued := s.pace.stamp }
          presented := s.writer.presented ++ [.consumedRead] } }
    else s := by
  unfold State.writerTick State.issueConsumed State.onWriter
  by_cases waits : s.writer.state = .waiting ∧ s.regs.run = .running
  · rw [if_pos waits]
    dsimp only
    by_cases free : s.writer.consumedRead = none
    · have none : ¬ s.writer.consumedRead.isSome = true := by rw [free]; decide
      rw [if_neg none, if_pos ⟨waits.1, waits.2, free⟩]
      rfl
    · rw [if_pos (Option.isSome_iff_ne_none.2 free), if_neg fun all => free all.2.2]
  · rw [if_neg waits, if_neg fun all => waits ⟨all.1, all.2.1⟩]

/-- The consumed read of a tick touches nothing that the status write looks at; it is made in RUNNING alone. -/
theorem State.writerTick_cases (s : State) : s.writerTick = s ∨ (s.regs.run = .running ∧
    ∃ read presented, s.writerTick =
      { s with writer := { s.writer with consumedRead := read, presented := presented } }) := by
  rw [State.writerTick_eq]
  split
  · next waits => exact .inr ⟨waits.2.1, _, _, rfl⟩
  · exact .inl rfl

/-- Where no status write is in flight, the end of DRAINING has been reached as R193 says. -/
theorem State.endReached_iff (free : s.writer.statusWrite = none) : s.endReached = true ↔
    s.writer.final ≠ .notReached ∨ (s.regs.run = .draining ∧ s.regs.drainedStarting = false ∧
      s.regs.headerRead = none ∧ s.reader.fetch = none ∧ s.writer.consumedRead = none ∧ s.writer.recordWrite = none ∧
        s.delivery.copy = none ∧ (s.writer.held = [] ∨ s.writer.state = .waiting)) := by
  simp only [State.endReached, State.drained, State.quiet, free, Bool.or_eq_true, Bool.and_eq_true, beq_iff_eq,
    bne_iff_ne, Bool.not_eq_true', Option.isNone_iff_eq_none, List.isEmpty_iff]
  tauto

theorem State.drained_of_running {s : State} (running : s.regs.run = .running) : s.drained = false := by
  unfold State.drained
  rw [running]
  rfl

theorem State.writerTick_endReached (s : State) : s.writerTick.endReached = s.endReached := by
  obtain same | ⟨running, read, presented, reads⟩ := s.writerTick_cases
  · rw [same]
  · have before : s.drained = false := State.drained_of_running running
    have after : s.writerTick.drained = false := State.drained_of_running (by rw [reads]; exact running)
    rw [State.endReached, State.endReached, before, after, reads]

/-- Status writes are made in RUNNING and DRAINING, and not by a STOPPED writer. -/
def State.reports (s : State) : Prop := (s.regs.run = .running ∨ s.regs.run = .draining) ∧ s.writer.state ≠ .stopped

theorem State.statusTick_silent (silent : ¬ s.reports) : s.statusTick = s := if_neg silent

theorem State.statusTick_skips (reports : s.reports) (busy : s.writer.statusWrite.isSome) :
    s.statusTick = s.onWriter fun w => { w with statusSkipped := Counter.inc w.statusSkipped } :=
  (if_pos reports).trans (if_pos busy)

theorem State.statusTick_ended (reports : s.reports) (free : s.writer.statusWrite = none)
    (ended : s.endReached = true) : s.statusTick = s :=
  (if_pos reports).trans ((if_neg (by rw [free]; decide)).trans (if_pos ended))

theorem State.statusTick_writes (reports : s.reports) (free : s.writer.statusWrite = none)
    (not : ¬ s.endReached = true) : s.statusTick = s.issueStatus false :=
  (if_pos reports).trans ((if_neg (by rw [free]; decide)).trans (if_neg not))

theorem State.writerTick_reports (s : State) : s.writerTick.reports ↔ s.reports := by
  obtain same | ⟨-, read, presented, reads⟩ := s.writerTick_cases
  · rw [same]
  · rw [reads]
    exact Iff.rfl

theorem State.writerTick_regs (s : State) : s.writerTick.regs = s.regs := by
  obtain same | ⟨-, read, presented, reads⟩ := s.writerTick_cases
  · rw [same]
  · rw [reads]

theorem State.writerTick_writer (s : State) : ∃ read presented,
    s.writerTick.writer = { s.writer with consumedRead := read, presented := presented } := by
  obtain same | ⟨-, read, presented, reads⟩ := s.writerTick_cases
  · exact ⟨_, _, by rw [same]⟩
  · exact ⟨read, presented, by rw [reads]⟩

end

end Sys2Proof.Machine

open Sys2Proof Sys2Proof.Machine

/-- Settles O18: the observers are the eight, and each block's tick is its own operation. -/
theorem tickReachesEveryBlock : Obligations.TickReachesEveryBlock := by
  unfold Obligations.TickReachesEveryBlock
  intro order s r w rest
  refine ⟨observers_perm order, eraseDups_of_nodup order, rfl, s.tick_pace order, s.tick_settings order,
    s.tick_straps order, s.tick_delivery order, fun port => ⟨?_, rfl, s.tick_port port order⟩, rfl, rfl,
    fun parked free => State.observe_cueReader_parked parked free,
    fun parked busy => State.observe_cueReader_fetching parked busy,
    fun unparked idle => State.observe_cueReader_idle unparked idle, ?_⟩
  · cases port <;> rfl
  intro read serial reports endReached
  have reads : s.writerTick = read := s.writerTick_eq
  obtain ⟨consumed, presented, writer⟩ := s.writerTick_writer
  have observes : s.observe .resultWriter = read.statusTick := congrArg State.statusTick reads
  have still : read.reports ↔ reports := by
    rw [← reads]
    exact s.writerTick_reports
  have end_iff : w.statusWrite = none → (read.endReached = true ↔ endReached) := fun free => by
    rw [← reads, s.writerTick_endReached]
    exact State.endReached_iff free
  have regs : read.regs = s.regs := by
    rw [← reads]
    exact s.writerTick_regs
  rw [reads] at writer
  refine ⟨fun silent => ?_, fun reporting busy => ?_, fun reporting free not => ?_, fun reporting free ended => ?_⟩
  · rw [observes, State.statusTick_silent (mt still.1 silent)]
  · rw [observes, State.statusTick_skips (still.2 reporting) (by rw [writer]; exact busy), State.onWriter, writer]
  · rw [observes, State.statusTick_writes (still.2 reporting) (by rw [writer]; exact free) (mt (end_iff free).1 not),
      State.issueStatus, State.onWriter, regs, writer]
    rfl
  · rw [observes, State.statusTick_ended (still.2 reporting) (by rw [writer]; exact free) ((end_iff free).2 ended)]

end

section
/-! SUPPORT. Which head the matcher disposes of (R52 to R54), what a disposal pass makes of the heads (R51), and
membership of the take (R74). -/

namespace Sys2Proof.Machine

section
variable {s : State}

/-! ### The heads examined -/

theorem State.examine_both {l r : Nat × FrameRecord} (left : s.head .left = some l) (right : s.head .right = some r) :
    s.examine = s.bothHeads l r := by
  unfold State.examine
  rw [left, right]

theorem State.examine_onlyLeft {l : Nat × FrameRecord} (left : s.head .left = some l) (right : s.head .right = none) :
    s.examine = s.loneHead .left l := by
  unfold State.examine
  rw [left, right]

theorem State.examine_onlyRight {r : Nat × FrameRecord} (left : s.head .left = none) (right : s.head .right = some r) :
    s.examine = s.loneHead .right r := by
  unfold State.examine
  rw [left, right]

theorem State.examine_empty (left : s.head .left = none) (right : s.head .right = none) : s.examine = none := by
  unfold State.examine
  rw [left, right]

theorem State.bothHeads_leftExpired (expired : s.matcher.leftMark.expired = true) (l r : Nat × FrameRecord) :
    s.bothHeads l r = s.disposeOrphan .left l := if_pos expired

theorem State.bothHeads_rightExpired (left : s.matcher.leftMark.expired = false)
    (expired : s.matcher.rightMark.expired = true) (l r : Nat × FrameRecord) :
    s.bothHeads l r = s.disposeOrphan .right r :=
  (if_neg (Bool.eq_false_iff.1 left)).trans (if_pos expired)

theorem State.bothHeads_compared (left : s.matcher.leftMark.expired = false)
    (right : s.matcher.rightMark.expired = false) (l r : Nat × FrameRecord) : s.bothHeads l r = s.compareHeads l r :=
  (if_neg (Bool.eq_false_iff.1 left)).trans (if_neg (Bool.eq_false_iff.1 right))

/-- Outside the pair window the earlier head is an orphan (R52). -/
theorem State.compareHeads_leftEarlier {l r : Nat × FrameRecord}
    (early : skewOf l.2 r.2 < -(s.settings.matching.window : Int)) :
    s.compareHeads l r = s.disposeOrphan .left l := if_pos early

theorem State.compareHeads_rightEarlier {l r : Nat × FrameRecord}
    (late : (s.settings.matching.window : Int) < skewOf l.2 r.2) :
    s.compareHeads l r = s.disposeOrphan .right r :=
  (if_neg (by omega)).trans (if_pos late)

/-- A lone head waits for a link in FRAME_LOCK until it has expired (R54). -/
theorem State.loneHead_waits {e : Eye} (locked : (s.receiver (otherEye e)).sync = .frameLock)
    (fresh : (s.matcher.mark e).expired = false) (x : Nat × FrameRecord) : s.loneHead e x = none :=
  if_pos ⟨locked, fresh⟩

theorem State.loneHead_disposed {e : Eye}
    (h : (s.receiver (otherEye e)).sync ≠ .frameLock ∨ (s.matcher.mark e).expired = true) (x : Nat × FrameRecord) :
    s.loneHead e x = s.disposeOrphan e x := by
  refine if_neg ?_
  rintro ⟨locked, fresh⟩
  obtain unlocked | expired := h
  · exact unlocked locked
  · exact Bool.eq_false_iff.1 fresh expired

/-! ### The pass as an iteration -/

theorem State.pass_stopped (stopped : s.matcher.state = .stopped) : s.pass = s := if_pos stopped

/-- A pass is as many acts as there are heads queued. -/
theorem State.pass_running (running : s.matcher.state ≠ .stopped) : s.pass = State.passSteps s.queuedHeads s :=
  if_neg running

theorem State.passSteps_of_examine_none (ended : s.examine = none) (n : Nat) : State.passSteps n s = s := by
  cases n with
  | zero => rfl
  | succ n =>
    unfold State.passSteps
    rw [ended]

theorem State.pass_of_examine_none (ended : s.examine = none) : s.pass = s := by
  by_cases running : s.matcher.state = .stopped
  · exact State.pass_stopped running
  · rw [State.pass_running running, State.passSteps_of_examine_none ended]

/-- A pass is one act with its close check and then the rest of the pass: an act leaves fewer heads, and so as many acts
as there were heads are enough for the rest. -/
theorem State.pass_of_examine_some {u : State} (running : s.matcher.state ≠ .stopped) (act : s.examine = some u) :
    s.pass = u.closeCheck.pass := by
  obtain ⟨fewer, kept⟩ := State.examine_shrinks act
  obtain ⟨store, state, -⟩ := u.closeCheck_keeps
  have queued : u.closeCheck.queuedHeads = u.queuedHeads := by rw [State.queuedHeads, store, State.queuedHeads]
  have goesOn : u.closeCheck.matcher.state ≠ .stopped := by
    rw [state]
    exact kept running
  obtain ⟨n, heads⟩ : ∃ n, s.queuedHeads = n + 1 := Nat.exists_eq_add_one.2 (by omega)
  rw [State.pass_running running, State.pass_running goesOn, heads, State.passSteps, act]
  exact (State.passSteps_stable _ n _ le_rfl (by omega)).1

/-- No act is left after a pass. -/
theorem State.pass_examine (running : s.matcher.state ≠ .stopped) : s.pass.examine = none := by
  rw [State.pass_running running]
  exact (State.passSteps_stable _ _ s le_rfl le_rfl).2

/-! ### Membership (R74) -/

variable {m : PairMatcher}

theorem PairMatcher.member_closed (closed : m.take = .closed) (c : Stamp) : m.member c = false := by
  unfold PairMatcher.member
  rw [closed]
  rfl

theorem PairMatcher.member_opened (opened : m.take = .opened) (c : Stamp) :
    m.member c = true ↔ m.openStamp.toNat ≤ c.toNat := by
  unfold PairMatcher.member
  rw [opened]
  simp

theorem PairMatcher.member_closing {close : Stamp} (closing : m.take = .closing) (stamp : m.closeStamp = some close)
    (c : Stamp) : m.member c = true ↔ m.openStamp.toNat ≤ c.toNat ∧ c.toNat ≤ close.toNat := by
  unfold PairMatcher.member
  rw [closing, stamp]
  simp

end

end Sys2Proof.Machine

open Sys2Proof Sys2Proof.Machine

/-- Settles O28: by the heads there are and their marks the examination is the act named, and a pass takes the acts one
after another. -/
theorem headsExamined : Obligations.HeadsExamined := by
  unfold Obligations.HeadsExamined
  refine ⟨?_, fun s => ⟨State.pass_stopped, State.pass_of_examine_none, fun u => State.pass_of_examine_some,
    State.pass_examine⟩⟩
  intro l r s d w m
  refine ⟨fun left right leftWaits rightWaits => ?_, fun left right expired => ?_,
    fun left right leftWaits expired => ?_, fun left none => ?_, fun none right => ?_, State.examine_empty⟩
  · rw [State.examine_both left right, State.bothHeads_compared leftWaits rightWaits]
    exact ⟨State.compareHeads_leftEarlier, State.compareHeads_rightEarlier⟩
  · rw [State.examine_both left right, State.bothHeads_leftExpired expired]
  · rw [State.examine_both left right, State.bothHeads_rightExpired leftWaits expired]
  · rw [State.examine_onlyLeft left none]
    exact ⟨fun locked fresh => State.loneHead_waits (e := .left) locked fresh l,
      fun h => State.loneHead_disposed (e := .left) h l⟩
  · rw [State.examine_onlyRight none right]
    exact ⟨fun locked fresh => State.loneHead_waits (e := .right) locked fresh r,
      fun h => State.loneHead_disposed (e := .right) h r⟩

/-- Settles O29: membership in each take state, and where a pair and an orphan are judged by it. -/
theorem takeMembership : Obligations.TakeMembership := by
  unfold Obligations.TakeMembership
  refine ⟨fun c m => ⟨fun closed => PairMatcher.member_closed closed c, fun opened => PairMatcher.member_opened opened c,
      fun close closing stamp => PairMatcher.member_closing closing stamp c⟩,
    fun e h s => ⟨fun outside => State.disposeOrphan_released (.inl outside) e, rfl⟩, fun l r s => ?_⟩
  unfold State.pairEntry
  cases s.matcher.member l.2.captureStamp <;> simp

/-- Settles O30: what the skew tracker makes of the matcher, with the alarm in its four cases, and of the registers. -/
theorem skewTracked : Obligations.SkewTracked := by
  unfold Obligations.SkewTracked
  intro d s m limit x
  obtain ⟨window, carried, tracked⟩ := s.updateSkew_eq d
  have regs := s.updateSkew_regs d
  rw [tracked] at regs
  have still : ¬ (m.alarm = .armed ∧ limit < x.natAbs) → nextAlarm m.alarm x limit =
      (if m.alarm = .fired ∧ limit * 3 < x.natAbs * 4 then .fired else .armed) ∧ window = s.regs :=
    fun quiet => ⟨nextAlarm_of_not_fires quiet, regs.trans (if_neg quiet)⟩
  refine ⟨_, tracked, rfl, fun armed past => ?_, fun armed within => ?_, fun fired fallen => ?_,
    fun fired above => ?_, rfl, rfl, rfl, rfl, rfl, rfl, rfl, rfl, rfl⟩
  · have fires : m.alarm = .armed ∧ limit < x.natAbs := ⟨armed, past⟩
    exact ⟨nextAlarm_of_fires fires, congrArg RegisterWindow.cause (regs.trans (if_pos fires))⟩
  · obtain ⟨alarm, quiet⟩ := still fun fires => absurd fires.2 (Nat.not_lt.2 within)
    exact ⟨alarm.trans (if_neg (by simp [armed])), quiet⟩
  · obtain ⟨alarm, quiet⟩ := still (by simp [fired])
    exact ⟨alarm.trans (if_neg fun above => absurd above.2 (Nat.not_lt.2 fallen)), quiet⟩
  · obtain ⟨alarm, quiet⟩ := still (by simp [fired])
    exact ⟨alarm.trans (if_pos ⟨fired, above⟩), quiet⟩

end

section
/-! SUPPORT. The matcher's ticks (R55), owed and taken (log 5, log 6), and the close check (R75, R76). -/

namespace Sys2Proof.Machine

/-! ### What a tick taken keeps of the matcher -/

@[simp] theorem PairMatcher.setMark_tickOwed (m : PairMatcher) (e : Eye) (w : WaitMark) :
    (m.setMark e w).tickOwed = m.tickOwed := by cases e <;> rfl

@[simp] theorem PairMatcher.setMark_state (m : PairMatcher) (e : Eye) (w : WaitMark) :
    (m.setMark e w).state = m.state := by cases e <;> rfl

/-- The matcher runs and owes no tick. -/
def PairMatcher.Settled (m : PairMatcher) : Prop := m.state ≠ .stopped ∧ m.tickOwed = false

theorem State.Act.settled {s t : State} (a : s.Act t) (h : s.matcher.Settled) : t.matcher.Settled := by
  obtain ⟨running, clear⟩ := h
  cases a with
  | pair l r _ _ _ =>
    obtain ⟨regs, carried, tracked⟩ := State.updateSkew_eq _ (skewOf l.2 r.2)
    unfold State.formPair
    rw [tracked]
    exact ⟨by simp [PairMatcher.tracks], clear⟩
  | orphan e x _ _ =>
    exact ⟨by simpa [State.formOrphan, PairMatcher.join] using running,
      by simpa [State.formOrphan, PairMatcher.join] using clear⟩
  | release e x _ =>
    exact ⟨by simpa [State.releaseOrphan] using running, by simpa [State.releaseOrphan] using clear⟩

theorem State.closeCheck_settled {s : State} (h : s.matcher.Settled) : s.closeCheck.matcher.Settled := by
  obtain same | ⟨-, -, completes⟩ := s.closeCheck_cases
  · rw [same]
    exact h
  · rw [completes]
    simpa [State.completeClose, PairMatcher.Settled] using h

theorem State.dispose_settled {s : State} (h : s.matcher.Settled) : s.dispose.matcher.Settled :=
  State.closeCheck_settled (State.pass_induction (P := fun t => t.matcher.Settled) (fun _ _ g a => a.settled g)
    (fun _ g => State.closeCheck_settled g) h)

section
variable {s : State}

/-! ### The counts of the waiting heads -/

theorem State.advanceWaits_mark (s : State) (e : Eye) : s.advanceWaits.matcher.mark e = s.advanceMark e := by
  cases e <;> rfl

theorem State.advanceMark_waiting {e : Eye} (waiting : s.isWaiting e = true) : s.advanceMark e =
    ⟨(s.matcher.mark e).count + 1, decide (s.settings.matching.partnerWait ≤ (s.matcher.mark e).count + 1)⟩ :=
  if_pos waiting

theorem State.advanceMark_not_waiting {e : Eye} (not : ¬ s.isWaiting e = true) :
    s.advanceMark e = s.matcher.mark e := if_neg not

theorem State.wouldExpire_iff (s : State) (e : Eye) : s.wouldExpire e = true ↔
    s.isWaiting e = true ∧ s.settings.matching.partnerWait ≤ (s.matcher.mark e).count + 1 := by
  rw [State.wouldExpire, Bool.and_eq_true, decide_eq_true_iff]

theorem State.wouldClose_iff (s : State) :
    s.wouldClose = true ↔ s.matcher.take = .closing ∧ s.takeTick.matcher.take = .closed := by
  rw [State.wouldClose, Bool.and_eq_true, beq_iff_eq, beq_iff_eq]

/-! ### The tick owed and the tick taken -/

/-- The state whose matcher owes no tick. -/
def State.clearOwed (s : State) : State := s.onMatcher fun m => { m with tickOwed := false }

theorem State.clearOwed_self (clear : s.matcher.tickOwed = false) : s.clearOwed = s := by
  unfold State.clearOwed State.onMatcher
  rw [← clear]

theorem State.takeOwedTick_owed (owed : s.matcher.tickOwed = true) : s.takeOwedTick = s.clearOwed.takeTick :=
  if_pos owed

theorem State.takeOwedTick_clear (clear : s.matcher.tickOwed = false) : s.takeOwedTick = s :=
  if_neg (Bool.eq_false_iff.1 clear)

/-- A tick taken from the cleared state leaves a matcher that runs and owes none. -/
theorem State.clearOwed_takeTick_settled (running : s.matcher.state ≠ .stopped) :
    s.clearOwed.takeTick.matcher.Settled :=
  State.dispose_settled (s := s.clearOwed.advanceWaits) ⟨running, rfl⟩

theorem State.observe_pairMatcher (running : s.matcher.state ≠ .stopped) :
    s.observe .pairMatcher = s.takeOwedTick.takeTick := if_neg running

theorem State.observeLater_pairMatcher (running : s.matcher.state ≠ .stopped) :
    s.observeLater .pairMatcher = s.takeOwedTick.oweMatcherTick := if_neg running

/-- A tick left to the matcher is owed where it would expire a head or complete the close, and taken elsewhere. -/
theorem State.oweMatcherTick_eq (s : State) : s.oweMatcherTick =
    if s.wouldExpire .left = true ∨ s.wouldExpire .right = true ∨ s.wouldClose = true then
      s.onMatcher fun m => { m with tickOwed := true }
    else s.takeTick := by
  unfold State.oweMatcherTick
  simp only [Bool.or_eq_true, or_assoc]

theorem exec_takeCloseCompletion (s : State) : exec .takeCloseCompletion s =
    .next (if s.matcher.state ≠ .stopped ∧ s.matcher.take = .closing ∧ s.takeOwedTick.matcher.take = .closed then
      s.takeOwedTick
    else s) := rfl

/-! ### The close check (R75, R76) -/

/-- A slot clears the close where a capture stamp it carries lies after the close stamp. -/
theorem Slot.clears_iff (close : Stamp) (x : Slot) :
    x.clears (some close) = true ↔ ∀ f, x.frame = some f → close.toNat < f.captureStamp.toNat := by
  unfold Slot.clears
  cases x.frame with
  | none => simp
  | some f => simp

theorem State.closable_iff {close : Stamp} (stamp : s.matcher.closeStamp = some close) : s.closable = true ↔
    (∀ x ∈ s.store.slots, ∀ f, x.frame = some f → close.toNat < f.captureStamp.toNat) ∧
      s.delivery.copy = none ∧ s.writer.held.length + s.writer.reserved < 8 := by
  rw [State.closable, Bool.and_eq_true, Bool.and_eq_true, List.all_eq_true, Option.isNone_iff_eq_none, stamp,
    ResultWriter.canReserve, decide_eq_true_iff, and_assoc]
  simp only [Slot.clears_iff]

theorem State.closeCheck_completes (running : s.matcher.state ≠ .stopped) (closing : s.matcher.take = .closing)
    (closable : s.closable = true) : s.closeCheck = s.completeClose := if_pos ⟨running, closing, closable⟩

theorem State.closeCheck_stays (h : ¬ (s.matcher.state ≠ .stopped ∧ s.matcher.take = .closing ∧ s.closable = true)) :
    s.closeCheck = s := if_neg h

end

end Sys2Proof.Machine

open Sys2Proof Sys2Proof.Machine

/-- Settles O31: the tick the matcher owes and the tick it takes are one operation, on the state that owes none. -/
theorem partnerWaitExpires : Obligations.PartnerWaitExpires := by
  unfold Obligations.PartnerWaitExpires
  intro s waiting expires
  have waits : ∀ e, waiting e ↔ s.clearOwed.isWaiting e = true := fun e => by
    rw [State.isWaiting_iff]
    cases e <;> exact Iff.rfl
  have would : ∀ e, expires e ↔ s.wouldExpire e = true := fun e => by
    rw [State.wouldExpire_iff, State.isWaiting_iff]
  refine ⟨fun running => ⟨s.clearOwed.advanceWaits, rfl, fun e => ⟨fun now => ?_, fun not => ?_⟩, ?_⟩, fun stopped => ?_⟩
  · rw [State.advanceWaits_mark, State.advanceMark_waiting ((waits e).1 now)]
    cases e <;> rfl
  · rw [State.advanceWaits_mark, State.advanceMark_not_waiting (mt (waits e).2 not)]
    cases e <;> rfl
  · intro taken closes
    have tick : s.matcher.tickOwed = false → s.takeTick = taken := fun clear => by
      rw [← State.clearOwed_self clear]
      rfl
    have later : s.matcher.tickOwed = false → s.observeLater .pairMatcher =
        if expires .left ∨ expires .right ∨ closes then s.onMatcher fun m => { m with tickOwed := true }
        else taken := fun clear => by
      rw [State.observeLater_pairMatcher running, State.takeOwedTick_clear clear, State.oweMatcherTick_eq]
      simp only [would, State.wouldClose_iff, tick clear]
      rfl
    refine ⟨fun owed => ?_, fun clear => ?_, fun clear => ?_, fun clear some => ?_, fun clear left right close => ?_,
      fun owed => ?_⟩
    · rw [exec_partnerWaitExpiry_running running, State.takeOwedTick_owed owed]
      rfl
    · rw [exec_partnerWaitExpiry_running running, State.takeOwedTick_clear clear]
    · rw [State.observe_pairMatcher running, State.takeOwedTick_clear clear, tick clear]
    · rw [later clear, if_pos some]
      rfl
    · rw [later clear, if_neg (by simp [left, right, close])]
    · obtain ⟨goesOn, none⟩ : taken.matcher.Settled := State.clearOwed_takeTick_settled running
      have taking : s.takeOwedTick = taken := State.takeOwedTick_owed owed
      rw [State.observe_pairMatcher running, State.observe_pairMatcher goesOn, State.observeLater_pairMatcher running,
        State.observeLater_pairMatcher goesOn, taking, State.takeOwedTick_clear none]
      exact ⟨rfl, rfl⟩
  · exact ⟨congrArg _ (if_pos stopped), if_pos stopped, if_pos stopped⟩

/-- Settles O32: the close check completes the close where its conditions hold, and TAKE_CLOSE_COMPLETION is the check
of the owed tick. -/
theorem takeCloses : Obligations.TakeCloses := by
  unfold Obligations.TakeCloses
  intro conditions closes close s
  have completes : ∀ u : State, conditions close u → closes close u u.closeCheck := by
    rintro u ⟨running, closing, stamp, slots, copy, place⟩
    rw [State.closeCheck_completes running closing ((State.closable_iff stamp).2 ⟨slots, copy, place⟩),
      State.completeClose, stamp, Option.getD_some]
    simp [closes, State.place_held, State.place_reserved, State.place_nextSerial]
  have stays : ∀ u : State, u.matcher.closeStamp = some close → ¬ conditions close u → u.closeCheck = u :=
    fun u stamp not => State.closeCheck_stays fun ⟨running, closing, closable⟩ =>
      not ⟨running, closing, stamp, (State.closable_iff stamp).1 closable⟩
  refine ⟨completes s, stays s, fun none => ?_, ?_⟩
  · rw [exec_takeCloseCompletion]
    obtain clear | stopped | other := none
    · rw [State.takeOwedTick_clear clear, ite_self]
    · rw [if_neg fun h => h.1 stopped]
    · rw [if_neg fun h => other h.2.1]
  · intro owed running closing passed
    have taking : s.takeOwedTick = passed.closeCheck := State.takeOwedTick_owed owed
    have effect : exec .takeCloseCompletion s =
        .next (if passed.closeCheck.matcher.take = .closed then passed.closeCheck else s) := by
      rw [exec_takeCloseCompletion, taking]
      simp only [running, closing, ne_eq, not_false_eq_true, true_and]
    rw [effect]
    refine ⟨fun met => ⟨_, congrArg _ (if_pos ?_), completes passed met⟩, fun closed => ?_, fun still stamp not => ?_⟩
    · rw [(completes passed met).1]
    · rw [State.closeCheck_of_not_closing (by rw [closed]; decide), if_pos closed]
    · rw [stays passed stamp not, if_neg still]

end

section
/-! SUPPORT. The cues TARGET, RECALL, OPEN TAKE, CLOSE TAKE and NOTE (R180 to R184). -/

namespace Sys2Proof.Machine

section
variable {s : State}

/-- A record placed changes the writer alone (R124, R129). -/
theorem State.place_eq (s : State) (r : ResultRecord) : s.place r = { s with writer := (s.place r).writer } := by
  unfold State.place State.judgeHead
  dsimp only
  (repeat' split) <;> rfl

/-- A cue that needs a place in the pending-results queue has one where it is not held (R148). -/
theorem State.room_of_roomHold (free : s.roomHold = none) : s.writer.held.length + s.writer.reserved < 8 := by
  unfold State.roomHold at free
  split at free
  · next room => exact of_decide_eq_true room
  · cases free

theorem State.room_of_target {g : Target} (ready : s.standsReady (.target g)) : s.delivery.targets.length < 32 := by
  obtain ⟨-, free⟩ := State.verdict_ready ready.2
  by_contra full
  exact absurd ((if_neg full).symm.trans free) (by decide)

/-- OPEN TAKE executes in CLOSED alone, with a place for its record (R161, R148). -/
theorem State.closed_of_openTake {n : BitVec 32} (ready : s.standsReady (.openTake n)) :
    s.matcher.take = .closed ∧ s.roomHold = none := by
  obtain ⟨fault, free⟩ := State.verdict_ready ready.2
  unfold State.stateFault at fault
  unfold State.holdOf at free
  cases take : s.matcher.take with
  | closed => exact ⟨rfl, by simpa [take] using free⟩
  | opened => simp [take] at fault
  | closing => simp [take] at free

/-- CLOSE TAKE executes in OPEN alone (R161). -/
theorem State.opened_of_closeTake (ready : s.standsReady .closeTake) : s.matcher.take = .opened := by
  obtain ⟨fault, -⟩ := State.verdict_ready ready.2
  unfold State.stateFault at fault
  cases take : s.matcher.take with
  | opened => rfl
  | closed => simp [take] at fault
  | closing => simp [take] at fault

end

end Sys2Proof.Machine

open Sys2Proof Sys2Proof.Machine

/-- Settles O50: each cue has passed its own checks, and performs the effect written out; a record placed changes the
writer alone. -/
theorem targetAndTakeCuesExecute : Obligations.TargetAndTakeCuesExecute := by
  unfold Obligations.TargetAndTakeCuesExecute
  refine fun s => ⟨fun g ready => ⟨State.room_of_target ready, exec_of_standsReady ready⟩, fun ready => ?_,
    fun n ready => ?_, fun ready => ⟨State.opened_of_closeTake ready, exec_of_standsReady ready⟩, fun v ready => ?_⟩
  · exact ⟨State.room_of_roomHold (State.verdict_ready ready.2).2, _, exec_of_standsReady ready, State.place_eq _ _,
      State.place_writer_congr _ rfl rfl rfl, State.place_held _ _, State.place_reserved _ _,
      State.place_nextSerial _ _⟩
  · obtain ⟨closed, room⟩ := State.closed_of_openTake ready
    exact ⟨closed, State.room_of_roomHold room, _, exec_of_standsReady ready, State.place_eq _ _,
      State.place_writer_congr _ rfl rfl rfl, State.place_held _ _, State.place_reserved _ _,
      State.place_nextSerial _ _⟩
  · exact ⟨State.room_of_roomHold (State.verdict_ready ready.2).2, _, exec_of_standsReady ready, State.place_eq _ _,
      rfl, State.place_held _ _, State.place_reserved _ _, State.place_nextSerial _ _⟩

end

section
/-! SUPPORT. The Sample Ports: the characters of a message (R81, R82), the judgment of a complete one (R83 to R85), and
the selection for a new entry (R87). -/

namespace Sys2Proof.Machine

/-! ### One sample port -/

/-- A change of one sample port is what it makes of that port. -/
theorem State.onPort_congr {s : State} {port : PortId} {f g : SamplePort → SamplePort}
    (h : f (s.port port) = g (s.port port)) : s.onPort port f = s.onPort port g := by
  cases port
  · exact congrArg (fun p => { s with leftLens := p }) h
  · exact congrArg (fun p => { s with rightLens := p }) h
  · exact congrArg (fun p => { s with rig := p }) h

/-- A change that leaves the port as it is changes nothing. -/
theorem State.onPort_self {s : State} {port : PortId} {f : SamplePort → SamplePort}
    (h : f (s.port port) = s.port port) : s.onPort port f = s := by
  rw [State.onPort_congr (g := fun p => p) h]
  cases port <;> rfl

/-! ### A character in each reception state (R81, R82) -/

section
variable {p : SamplePort} {port : PortId} {now start : Stamp} {bytes : List Byte} {char : Byte} {framing : Bool}

/-- A start byte begins a message. -/
theorem SamplePort.take_begins (awaiting : p.reception = .awaiting) (isStart : char = 0x7E#8)
    (clean : framing = false) : p.take port now char framing = { p with reception := .collecting now [char] } := by
  simp only [SamplePort.take, awaiting]
  exact if_pos ⟨isStart, clean⟩

/-- Any other character in AWAITING is passed over. -/
theorem SamplePort.take_passes (awaiting : p.reception = .awaiting) (other : char ≠ 0x7E#8 ∨ framing = true) :
    p.take port now char framing = p := by
  simp only [SamplePort.take, awaiting]
  refine if_neg fun ⟨isStart, clean⟩ => ?_
  obtain different | broken := other
  · exact different isStart
  · exact absurd (clean.symm.trans broken) (by decide)

theorem SamplePort.take_of_collecting (collecting : p.reception = .collecting start bytes) :
    p.take port now char framing = p.collect port now start bytes char framing := by
  simp only [SamplePort.take, collecting]

/-- A framing error in a message ends it. -/
theorem SamplePort.take_discards (collecting : p.reception = .collecting start bytes) :
    p.take port now char true = p.discardBad := SamplePort.take_of_collecting collecting

/-- A character up to the tenth is appended. -/
theorem SamplePort.take_appends (collecting : p.reception = .collecting start bytes) (few : bytes.length ≤ 9) :
    p.take port now char false = { p with reception := .collecting start (bytes ++ [char]) } :=
  (SamplePort.take_of_collecting collecting).trans (if_pos (show bytes.length + 1 < 11 by omega))

/-- The eleventh character has the message judged. -/
theorem SamplePort.take_judges (collecting : p.reception = .collecting start bytes) (last : bytes.length = 10) :
    p.take port now char false = { p with reception := .awaiting }.judge port now (bytes ++ [char]) :=
  (SamplePort.take_of_collecting collecting).trans (if_neg (show ¬ bytes.length + 1 < 11 by omega))

/-- A character ends a message by a framing error or as its eleventh (R82). -/
theorem SamplePort.endsMessage_iff (collecting : p.reception = .collecting start bytes) :
    p.endsMessage framing = true ↔ framing = true ∨ 10 ≤ bytes.length := by
  simp only [SamplePort.endsMessage, collecting, Config.messageBytes, Bool.or_eq_true, decide_eq_true_eq,
    Nat.reduceLeDiff]

/-- The completion deadline of a message begun at `start` (R81). -/
theorem SamplePort.overdue_iff (collecting : p.reception = .collecting start bytes) :
    p.overdue now = true ↔ 2000 ≤ (now - start).toNat := by
  simp only [SamplePort.overdue, collecting, decide_eq_true_eq]
  rfl

end

/-! ### The commands of a sample port -/

section
variable {s : State} {port : PortId} {char : Byte} {framing : Bool}

theorem exec_sampleCharacter_outside (outside : s.regs.run ≠ .running) :
    exec (.sampleCharacter port char framing) s = .next s := congrArg _ (if_neg outside)

/-- In RUNNING the port takes the character, whatever else says what it then is. -/
theorem exec_sampleCharacter_of_take {f : SamplePort → SamplePort} (running : s.regs.run = .running)
    (taken : (s.port port).take port s.now char framing = f (s.port port)) :
    exec (.sampleCharacter port char framing) s = .next (s.onPort port f) :=
  congrArg _ ((if_pos running).trans (State.onPort_congr taken))

/-- The character that ends a message may come as either command (log 8). -/
theorem exec_sampleMessage_of_endsMessage (ends : (s.port port).endsMessage framing = true) :
    exec (.sampleMessage port char framing) s = exec (.sampleCharacter port char framing) s :=
  congrArg _ (if_pos ends)

theorem exec_messageDeadlineExpiry_of_overdue (overdue : (s.port port).overdue s.now = true) :
    exec (.messageDeadlineExpiry port) s = .next (s.onPort port SamplePort.discardBad) :=
  congrArg _ (if_pos overdue)

/-- The eleventh character of a message has it judged, with the stamp of that character (R82, R83). -/
theorem exec_sampleMessage_of_judge {start : Stamp} {bytes : List Byte} {f : SamplePort → SamplePort}
    (running : s.regs.run = .running) (collecting : (s.port port).reception = .collecting start bytes)
    (last : bytes.length = 10)
    (judged : { s.port port with reception := .awaiting }.judge port s.now (bytes ++ [char]) = f (s.port port)) :
    exec (.sampleMessage port char false) s = .next (s.onPort port f) := by
  rw [exec_sampleMessage_of_endsMessage ((SamplePort.endsMessage_iff collecting).2 (.inr last.ge))]
  exact exec_sampleCharacter_of_take running ((SamplePort.take_judges collecting last).trans judged)

end

/-! ### The judgment of a complete message (R83 to R85) -/

section
variable {message : List Byte} {port : PortId}

theorem messageCheck_iff : messageCheck message = true ↔ (message.map BitVec.toNat).sum % 256 = 0 := beq_iff_eq

theorem kindByte_eq (port : PortId) : kindByte port = if port = .rig then 0x52#8 else 0x4C#8 := by
  cases port <;> rfl

theorem lensRange_iff : lensRange message = true ↔
    100 ≤ fieldAt message 6 2 ∧ fieldAt message 6 2 ≤ 6400 ∧ 1 ≤ fieldAt message 8 2 := by
  simp only [lensRange, Bool.and_eq_true, decide_eq_true_eq, and_assoc]

theorem rigRange_iff : rigRange message = true ↔
    fieldAt message 2 4 ≤ 200000 ∧ -500000 ≤ (word32At message 6).toInt ∧ (word32At message 6).toInt ≤ 500000 := by
  simp only [rigRange, Bool.and_eq_true, decide_eq_true_eq, and_assoc]

/-- The ranges of R84, by the kind of port. -/
theorem valuesInRange_iff : valuesInRange port message = true ↔
    if port = .rig then
      fieldAt message 2 4 ≤ 200000 ∧ -500000 ≤ (word32At message 6).toInt ∧ (word32At message 6).toInt ≤ 500000
    else 100 ≤ fieldAt message 6 2 ∧ fieldAt message 6 2 ≤ 6400 ∧ 1 ≤ fieldAt message 8 2 := by
  cases port with
  | leftLens => exact lensRange_iff
  | rightLens => exact lensRange_iff
  | rig => exact rigRange_iff

/-- A good message, by its check, its kind and its ranges (R83). -/
theorem messageGood_iff : messageGood port message = true ↔ (message.map BitVec.toNat).sum % 256 = 0 ∧
    byteAt message 1 = (if port = .rig then 0x52#8 else 0x4C#8) ∧ valuesInRange port message = true := by
  rw [messageGood, Bool.and_eq_true, Bool.and_eq_true, messageCheck_iff, beq_iff_eq, kindByte_eq, and_assoc]

end

section
variable {p : SamplePort} {port : PortId} {now : Stamp} {message : List Byte}

theorem SamplePort.judge_bad (bad : ¬ messageGood port message = true) :
    p.judge port now message = { p with bad := Counter.inc p.bad } := if_neg bad

/-- A good message on a stack with room joins it as the newest sample (R85). -/
theorem SamplePort.judge_room (good : messageGood port message = true) (room : p.stack.length < 4) :
    p.judge port now message = { p with stack := p.stack ++ [messageSample now message] } :=
  (if_pos good).trans (if_pos room)

/-- A good message on a full stack has the oldest sample leave it, counted as an overrun (R85). -/
theorem SamplePort.judge_full (good : messageGood port message = true) (full : 4 ≤ p.stack.length) :
    p.judge port now message = { p with
      stack := p.stack.tail ++ [messageSample now message], overruns := Counter.inc p.overruns } :=
  (if_pos good).trans (if_neg (Nat.not_lt.2 full))

end

/-! ### Selection (R87) -/

section
variable {p : SamplePort} {x : SampleSetting} {c : Stamp} {y : Sample}

/-- The bounds of R87, where a max age beyond the capture stamp bounds nothing. -/
theorem qualifies_iff : qualifies x c y = true ↔ y.stamp.toNat ≤ c.toNat + x.lead ∧
    (c.toNat < x.maxAge ∨ c.toNat - x.maxAge ≤ y.stamp.toNat) := by
  rw [qualifies, Bool.and_eq_true, decide_eq_true_eq, decide_eq_true_eq]
  omega

theorem SamplePort.select_none (unfit : ∀ z ∈ p.stack, ¬ qualifies x c z = true) : p.select x c = none := by
  rw [SamplePort.select, List.filter_eq_nil_iff.2 unfit]
  rfl

/-- Of the qualifying samples the last of the stack is selected. -/
theorem SamplePort.select_newest {older newer : List Sample} (stack : p.stack = older ++ y :: newer)
    (fit : qualifies x c y = true) (unfit : ∀ z ∈ newer, ¬ qualifies x c z = true) :
    p.select x c = some y.values := by
  rw [SamplePort.select, stack, List.filter_append, List.filter_cons_of_pos fit, List.filter_eq_nil_iff.2 unfit,
    List.getLast?_concat]
  rfl

end

end Sys2Proof.Machine

open Sys2Proof Sys2Proof.Machine

/-- Settles O33: each case is what the port's reception state makes of the character, and the expiry what an overdue
message makes of the port. -/
theorem charactersTaken : Obligations.CharactersTaken := by
  unfold Obligations.CharactersTaken
  refine fun port char framing s => ⟨exec_sampleCharacter_outside, fun running awaiting isStart clean => ?_,
    fun running awaiting other => ?_, fun start bytes running collecting => ⟨?_, ?_, fun ends => ?_⟩,
    fun start bytes collecting late => ?_⟩
  · exact exec_sampleCharacter_of_take running (SamplePort.take_begins awaiting isStart clean)
  · have kept : s.onPort port (fun p => p.take port s.now char framing) = s :=
      State.onPort_self (SamplePort.take_passes awaiting other)
    exact (exec_sampleCharacter_of_take running rfl).trans (congrArg _ kept)
  · rintro rfl few
    exact exec_sampleCharacter_of_take running (SamplePort.take_appends collecting few)
  · rintro rfl
    exact exec_sampleCharacter_of_take running (SamplePort.take_discards collecting)
  · exact exec_sampleMessage_of_endsMessage ((SamplePort.endsMessage_iff collecting).2 ends)
  · exact exec_messageDeadlineExpiry_of_overdue ((SamplePort.overdue_iff collecting).2 late)

/-- Settles O34: a message is good by its check, its kind and its ranges, and the port's judgment is the change written
out. -/
theorem messagesJudged : Obligations.MessagesJudged := by
  unfold Obligations.MessagesJudged
  intro port start bytes char s message number inRange good sample running collecting last
  have judged : messageGood port message = true ↔ good := by rw [messageGood_iff, valuesInRange_iff]; rfl
  refine ⟨fun bad => ?_, fun isGood room => ?_, fun isGood full => ?_⟩
  · exact exec_sampleMessage_of_judge running collecting last (SamplePort.judge_bad (mt judged.1 bad))
  · exact exec_sampleMessage_of_judge running collecting last (SamplePort.judge_room (judged.2 isGood) room)
  · exact exec_sampleMessage_of_judge running collecting last (SamplePort.judge_full (judged.2 isGood) full)

/-- Settles O35: a sample fits where it qualifies, and the newest that qualifies ends the stack's qualifying ones. -/
theorem samplesSelected : Obligations.SamplesSelected := by
  unfold Obligations.SamplesSelected
  intro p x c fits
  have qualified : ∀ y, qualifies x c y = true ↔ fits y := fun y => qualifies_iff
  refine ⟨fun unfit => ?_, fun older newer y stack fit unfit => ?_⟩
  · exact SamplePort.select_none fun y among => mt (qualified y).1 (unfit y among)
  · exact SamplePort.select_newest stack ((qualified y).2 fit) fun z later => mt (qualified z).1 (unfit z later)

end

section
/-! SUPPORT. The offset tracker at a valid measurement (R100, R101). -/

namespace Sys2Proof.Machine

section
variable {a : AlignmentUnit} {t : TrackSetting} {b : Int}

/-- FIXED holds the tracker (R101). -/
theorem AlignmentUnit.track_fixed (mode : t.mode = .fixed) : a.track t b = a := by
  rw [AlignmentUnit.track, mode]

theorem AlignmentUnit.track_auto (mode : t.mode = .auto) : a.track t b = (a.agree b).settle t.settleCount := by
  rw [AlignmentUnit.track, mode]

/-- An offset measured as it is applied clears the candidate and the agreement count (R100). -/
theorem AlignmentUnit.agree_offset (same : b = a.offset) : a.agree b = a.clearRun := if_pos same

theorem AlignmentUnit.agree_candidate (moved : b ≠ a.offset) (again : a.candidate = some b) :
    a.agree b = { a with candidate := some b, agreement := a.agreement + 1 } := by
  rw [← again]
  exact (if_neg moved).trans (if_pos again)

theorem AlignmentUnit.agree_new (moved : b ≠ a.offset) (new : a.candidate ≠ some b) :
    a.agree b = { a with candidate := some b, agreement := 1 } := (if_neg moved).trans (if_neg new)

theorem AlignmentUnit.settle_none (none : a.candidate = none) (n : Nat) : a.settle n = a := by
  rw [AlignmentUnit.settle, none]

/-- A candidate is settled where its agreement count has reached the settle count (R100). -/
theorem AlignmentUnit.settle_some {c : Int} (candidate : a.candidate = some c) (n : Nat) : a.settle n =
    if n ≤ a.agreement then
      { a with offset := c, candidate := none, agreement := 0, settles := Counter.inc a.settles }
    else a := by
  rw [AlignmentUnit.settle, candidate]
  rfl

end

end Sys2Proof.Machine

open Sys2Proof Sys2Proof.Machine

/-- Settles O37: by the mode, and in AUTO by the case of the table that the measured offset meets. -/
theorem trackerSettles : Obligations.TrackerSettles := by
  unfold Obligations.TrackerSettles
  refine fun a t b => ⟨AlignmentUnit.track_fixed, fun auto same => ?_, fun auto moved again => ?_,
    fun auto moved new => ?_⟩
  · rw [AlignmentUnit.track_auto auto, AlignmentUnit.agree_offset same]
    exact AlignmentUnit.settle_none rfl _
  · rw [AlignmentUnit.track_auto auto, AlignmentUnit.agree_candidate moved again]
    exact AlignmentUnit.settle_some rfl _
  · rw [AlignmentUnit.track_auto auto, AlignmentUnit.agree_new moved new]
    exact AlignmentUnit.settle_some rfl _

end

section
/-! SUPPORT. A measurement (R95 to R99): its beginning, its scores and its finding, and its end. -/

namespace Sys2Proof.Machine

/-! ### The beginning (R95) -/

/-- The unit looks for work in RUNNING, in HALTED, and in STARTING where it began in HALTED (R95). -/
theorem RegisterWindow.measures_iff (r : RegisterWindow) : r.measures = true ↔
    r.run = .running ∨ r.run = .halted ∨ (r.run = .starting ∧ r.startedHalted = true) := by
  unfold RegisterWindow.measures
  cases r.run <;> simp

/-- The beginning reads the oldest MEASURING entry (R95). -/
theorem exec_measurementBegin_of_measuring {s : State} {x : Entry} (can : s.canMeasure = true)
    (oldest : s.matcher.oldestMeasuring = some x) : exec .measurementBegin s =
      .next { s with align := { s.align with looking := false, busy := some (s.inProgress x) } } := by
  refine congrArg Host.Outcome.next ((if_pos can).trans ?_)
  rw [oldest]
  rfl

/-! ### The scores (R96) -/

theorem mem_candidates (range : Nat) (d : Int) : d ∈ candidates range ↔ -(range : Int) ≤ d ∧ d ≤ range := by
  simp only [candidates, List.mem_map, List.mem_range]
  constructor
  · rintro ⟨i, inside, rfl⟩
    omega
  · rintro ⟨low, high⟩
    exact ⟨(d + range).toNat, by omega, by omega⟩

theorem scoreOf_eq_some (ds : List Nat) (x : Nat) : scoreOf ds = some x ↔ 2 ≤ ds.length ∧ x = ds.sum / ds.length := by
  unfold scoreOf
  split
  · next enough => exact ⟨fun h => ⟨enough, (Option.some.inj h).symm⟩, fun h => congrArg some h.2.symm⟩
  · next few => exact ⟨nofun, fun h => absurd h.1 few⟩

/-- The scored candidates are those within −W..+W that have a score. -/
theorem InProgress.mem_scored (m : InProgress) (d : Int) (x : Nat) : (d, x) ∈ m.scored ↔
    (-(m.range : Int) ≤ d ∧ d ≤ m.range) ∧ m.score d = some x := by
  simp only [InProgress.scored, List.mem_filterMap, mem_candidates, Option.map_eq_some_iff, Prod.mk.injEq]
  constructor
  · rintro ⟨d, inside, x, score, rfl, rfl⟩
    exact ⟨inside, score⟩
  · rintro ⟨inside, score⟩
    exact ⟨d, inside, x, score, rfl, rfl⟩

/-! ### The best candidate and the confidence (R97) -/

theorem better_iff (a b : Int × Nat) : better a b = true ↔
    a.2 < b.2 ∨ (a.2 = b.2 ∧ (a.1.natAbs < b.1.natAbs ∨ (a.1.natAbs = b.1.natAbs ∧ a.1 < b.1))) := by
  simp [better]

/-- Of two candidates one alone is better. -/
theorem better_asymm {a b : Int × Nat} (h : better a b = true) : ¬ better b a = true := by
  rw [better_iff] at h ⊢
  omega

/-- The best candidate is among the scored ones. -/
theorem bestOf_mem {cs : List (Int × Nat)} {b : Int × Nat} (h : bestOf cs = some b) : b ∈ cs := by
  induction cs with
  | nil => cases h
  | cons c cs ih =>
    unfold bestOf at h
    split at h
    · cases h
      exact List.mem_cons_self
    · next best =>
      split at h <;> cases h
      · exact List.mem_cons_of_mem _ (ih best)
      · exact List.mem_cons_self

theorem bestOf_eq_none {cs : List (Int × Nat)} (h : bestOf cs = none) : cs = [] := by
  cases cs with
  | nil => rfl
  | cons c cs =>
    unfold bestOf at h
    split at h
    · cases h
    · split at h <;> cases h

/-- A candidate that is better than every other is the best one. -/
theorem bestOf_of_better {cs : List (Int × Nat)} {b : Int × Nat} (among : b ∈ cs)
    (best : ∀ c ∈ cs, c = b ∨ better b c = true) : bestOf cs = some b := by
  induction cs with
  | nil => cases among
  | cons c cs ih =>
    unfold bestOf
    split
    · next rest =>
      rw [bestOf_eq_none rest, List.mem_singleton] at among
      rw [among]
    · next b' rest =>
      obtain rfl | first := best b' (List.mem_cons_of_mem _ (bestOf_mem rest))
      · obtain rfl | later := best c List.mem_cons_self
        · rw [ite_self]
        · exact if_pos later
      · have found : b = c := by
          obtain same | later := List.mem_cons.1 among
          · exact same
          · have all := ih later fun d inside => best d (List.mem_cons_of_mem _ inside)
            rw [rest] at all
            cases all
            exact absurd first (better_asymm first)
        subst found
        exact if_neg (better_asymm first)

/-- With one candidate alone, or none, nothing gives a confidence (R97). -/
theorem judgeScores_alone {cs : List (Int × Nat)} (alone : ∀ a ∈ cs, ∀ b ∈ cs, a.1 = b.1) (floor : Nat) :
    judgeScores cs floor = .invalid := by
  unfold judgeScores
  split
  · rfl
  · next b best =>
    have none : cs.filter (fun c => c.1 != b.1) = [] :=
      List.filter_eq_nil_iff.2 fun c inside => by simp [alone c inside b (bestOf_mem best)]
    rw [none]
    rfl

/-- The confidence is the lowest score of another candidate less the best one's (R97). -/
theorem judgeScores_best {cs : List (Int × Nat)} {b : Int × Nat} {next : Nat} (best : bestOf cs = some b)
    (lowest : lowestScore (cs.filter fun c => c.1 != b.1) = some next) (floor : Nat) : judgeScores cs floor =
      if floor ≤ next - b.2 then .valid { offset := b.1, confidence := next - b.2 } else .invalid := by
  unfold judgeScores
  rw [best]
  dsimp only
  rw [lowest]

/-- The lowest score among candidates is that of one of them, and none has a lower one. -/
theorem lowestScore_eq {cs : List (Int × Nat)} {c : Int × Nat} (among : c ∈ cs) (lowest : ∀ d ∈ cs, c.2 ≤ d.2) :
    lowestScore cs = some c.2 := by
  rw [lowestScore, List.min?_eq_some_iff]
  refine ⟨List.mem_map_of_mem among, fun y scored => ?_⟩
  obtain ⟨d, inside, rfl⟩ := List.mem_map.1 scored
  exact lowest d inside

/-! ### The finding (R97, R98) -/

section
variable {m : InProgress}

theorem InProgress.finding_disabled (disabled : ¬ m.enabled = true) (floor : Nat) : m.finding floor = .disabled :=
  if_neg disabled

theorem InProgress.finding_enabled (enabled : m.enabled = true) (floor : Nat) :
    m.finding floor = judgeScores m.scored floor := if_pos enabled

/-- A candidate has one score. -/
theorem InProgress.scored_unique {d : Int} {x y : Nat} (hx : (d, x) ∈ m.scored) (hy : (d, y) ∈ m.scored) : x = y :=
  Option.some.inj (((m.mem_scored d x).1 hx).2.symm.trans ((m.mem_scored d y).1 hy).2)

/-- The finding where one candidate is better than every other, and another has the lowest score of the others. -/
theorem InProgress.finding_of_best {best other : Int} {x next : Nat} (enabled : m.enabled = true)
    (bestScored : (best, x) ∈ m.scored) (otherScored : (other, next) ∈ m.scored) (different : other ≠ best)
    (least : ∀ d y, (d, y) ∈ m.scored → d ≠ best → next ≤ y ∧ better (best, x) (d, y) = true) (floor : Nat) :
    m.finding floor =
      if floor ≤ next - x then .valid { offset := best, confidence := next - x } else .invalid := by
  have best_eq : bestOf m.scored = some (best, x) := by
    refine bestOf_of_better bestScored fun ⟨d, y⟩ inside => ?_
    by_cases same : d = best
    · subst same
      exact .inl (by rw [InProgress.scored_unique inside bestScored])
    · exact .inr (least d y inside same).2
  have lowest : lowestScore (m.scored.filter fun c => c.1 != best) = some next := by
    refine lowestScore_eq (c := (other, next)) ?_ fun ⟨d, y⟩ inside => ?_
    · exact List.mem_filter.2 ⟨otherScored, bne_iff_ne.2 different⟩
    · obtain ⟨among, apart⟩ := List.mem_filter.1 inside
      exact (least d y among (bne_iff_ne.1 apart)).1
  rw [InProgress.finding_enabled enabled, judgeScores_best best_eq lowest]

end

/-! ### Measurement done (R99) -/

/-- The unit after a finding, IDLE and looking for work (R99, R108). -/
def AlignmentUnit.finish (a : AlignmentUnit) (t : TrackSetting) (f : Finding) : AlignmentUnit :=
  { a.take t f with busy := none, looking := true }

section
variable {s : State} {m : InProgress} {x : Entry} {before after : List Entry}

/-- The end of a measurement: the tracker and the counters, and then the entry measured. -/
theorem exec_measurementDone_of_measuring (busy : s.align.busy = some m)
    (table : s.matcher.table = before ++ x :: after) (unit : x.unit = m.unit) (measuring : x.state = .measuring)
    (others : ∀ y ∈ before, y.unit ≠ m.unit) : exec .measurementDone s =
      .next (State.finishEntry
        { s with align := s.align.finish s.settings.track (m.finding s.settings.track.floor) } x
        (m.finding s.settings.track.floor)) := by
  have found : s.matcher.table.find? (fun y => y.unit == m.unit && y.state == .measuring) = some x := by
    rw [table]
    exact List.find?_eq_some_iff_append.2 ⟨by simp [unit, measuring], before, after, rfl,
      fun y inside => by simp [others y inside]⟩
  refine congrArg Host.Outcome.next ?_
  rw [busy]
  dsimp only
  unfold State.measurementDone
  dsimp only [State.onAlign]
  rw [found]
  rfl

/-- The measured entry alone is rewritten: no other has its unit number. -/
theorem PairMatcher.onMeasuring_eq {p : PairMatcher} (table : p.table = before ++ x :: after)
    (measuring : x.state = .measuring) (others : ∀ y ∈ before ++ after, y.unit ≠ x.unit) (g : Entry → Entry) :
    p.onMeasuring x.unit g = { p with table := before ++ g x :: after } := by
  have kept : ∀ l : List Entry, (∀ y ∈ l, y.unit ≠ x.unit) →
      l.map (fun y => if y.unit = x.unit ∧ y.state = .measuring then g y else y) = l := fun l other =>
    (List.map_congr_left fun y inside => if_neg fun h => other y inside h.1).trans (List.map_id' l)
  unfold PairMatcher.onMeasuring
  rw [table, List.map_append, List.map_cons, if_pos ⟨rfl, measuring⟩,
    kept before fun y inside => others y (List.mem_append_left _ inside),
    kept after fun y inside => others y (List.mem_append_right _ inside)]

/-- An entry to be delivered takes its measurement and the applied offset as it then stands (R99). -/
theorem State.finishEntry_deliver (deliver : x.disposition = .deliver) (table : s.matcher.table = before ++ x :: after)
    (measuring : x.state = .measuring) (others : ∀ y ∈ before ++ after, y.unit ≠ x.unit) (f : Finding) :
    s.finishEntry x f =
      { s with matcher := { s.matcher with table := before ++ x.measured f s.align.offset :: after } } := by
  unfold State.finishEntry
  rw [deliver]
  dsimp only [State.onMatcher]
  rw [PairMatcher.onMeasuring_eq table measuring others]

/-- An idle pair leaves the table, and its slots are released (R65, R99). -/
theorem State.finishEntry_release (release : x.disposition = .release)
    (table : s.matcher.table = before ++ x :: after) (fresh : x ∉ before) (f : Finding) : s.finishEntry x f =
      State.dispose { s with
        matcher := { s.matcher with table := before ++ after }, store := s.store.releaseAll x.slots } := by
  have erased : (before ++ x :: after).erase x = before ++ after := by
    rw [List.erase_append_right _ fresh, List.erase_cons_head]
  unfold State.finishEntry State.removeIdle
  rw [release]
  dsimp only [State.onMatcher, State.onStore]
  rw [table, erased]

end

end Sys2Proof.Machine

open Sys2Proof Sys2Proof.Machine

/-- Settles O36: the beginning and the end by the entry that is found, and the finding by the list of the scored
candidates, of which the best is the one better than every other. -/
theorem measurementsMade : Obligations.MeasurementsMade := by
  unfold Obligations.MeasurementsMade
  refine ⟨?_, ?_, ?_⟩
  · intro x before after s begun looking idle run table measuring first
    have can : s.canMeasure = true := by simp [State.canMeasure, looking, idle, (RegisterWindow.measures_iff _).2 run]
    refine exec_measurementBegin_of_measuring can ?_
    rw [PairMatcher.oldestMeasuring, table]
    exact List.find?_eq_some_iff_append.2 ⟨by simp [measuring], before, after, rfl,
      fun y inside => by simp [first y inside]⟩
  · intro p floor enabled usable differences scored
    have enabled_iff : p.enabled = true ↔ enabled := ProbeSetting.enabled_iff _
    have usable_eq : ∀ ps row, usableProfile ps row = usable ps row := fun ps row => by
      unfold usableProfile
      simp only [usable, Bool.decide_and, Bool.decide_eq_false]
    have score_eq : ∀ d, p.score d = scoreOf (differences d) := fun d => by
      refine congrArg scoreOf (List.filterMap_congr fun row _ => ?_)
      unfold InProgress.probeDifference
      rw [usable_eq, usable_eq]
      rfl
    have scored_iff : ∀ d x, (d, x) ∈ p.scored ↔ scored d x := fun d x => by
      rw [InProgress.mem_scored, score_eq, scoreOf_eq_some, and_assoc]
    refine ⟨fun disabled => InProgress.finding_disabled (mt enabled_iff.1 disabled) floor, fun on alone => ?_,
      fun best x other next on bestScored otherScored different least => ?_⟩
    · rw [InProgress.finding_enabled (enabled_iff.2 on)]
      exact judgeScores_alone (fun a ha b hb =>
        alone a.1 a.2 b.1 b.2 ((scored_iff _ _).1 ha) ((scored_iff _ _).1 hb)) floor
    · rw [InProgress.finding_of_best (enabled_iff.2 on) ((scored_iff _ _).2 bestScored)
        ((scored_iff _ _).2 otherScored) different fun d y inside apart =>
          (least d y ((scored_iff _ _).1 inside) apart).imp_right (better_iff _ _).2]
      exact ⟨fun clear => if_pos clear, fun unclear => if_neg (Nat.not_le.2 unclear)⟩
  · intro p x before after s finding field tracked idle busy table unit measuring others
    have finish_eq : s.align.finish s.settings.track finding = idle := by
      unfold AlignmentUnit.finish AlignmentUnit.take
      dsimp only [idle, tracked]
      cases finding <;> rfl
    have field_eq : finding.field = field := by
      dsimp only [field]
      cases finding <;> rfl
    have ended := exec_measurementDone_of_measuring busy table unit measuring fun y inside =>
      others y (List.mem_append_left _ inside)
    rw [finish_eq] at ended
    refine ⟨fun deliver => ?_, fun release => ?_⟩
    · rw [← field_eq]
      exact ended.trans (congrArg _ (State.finishEntry_deliver (s := { s with align := idle }) deliver table measuring
        (unit ▸ others) finding))
    · have fresh : x ∉ before := fun inside => others x (List.mem_append_left _ inside) unit
      exact ended.trans (congrArg _ (State.finishEntry_release (s := { s with align := idle }) release table fresh
        finding))

end

section
/-! SUPPORT. What a cue that passes every check was read from, and that its values are then in range (R142, R161). -/

namespace Sys2Proof.Machine

/-! ### The bytes of a cue that stands ready -/

section
variable {s : State} {c : Cue}

/-- A decoded cue that passes its state checks and hold conditions is the one that executes. -/
theorem State.judgeCue_same {d : Cue} (h : s.judgeCue c = .ready d) : c = d := by
  unfold State.judgeCue at h
  split at h
  · cases h
  · split at h
    · cases h
    · cases h; rfl

/-- The fields of a cue of known length are read from its bytes, all of them valid. -/
theorem State.judgeLength_reads {n : CueName} {length : Nat} (h : s.judgeLength n length = .ready c) :
    length ≤ s.reader.buffer.length ∧
    cueFields n (s.reader.buffer.take length) s.regs.bases.cueSize s.settings.format.height = .good c := by
  unfold State.judgeLength State.judgeBytes at h
  split at h
  · split at h
    · cases h
    · next whole =>
      split at h
      · cases h
      · next read => exact ⟨Nat.not_lt.1 whole, State.judgeCue_same h ▸ read⟩
  · cases h

/-- PROBES is read at its full length once its count is known to be 8 at most (log 16). -/
theorem State.judgeProbes_reads (h : s.judgeProbes = .ready c) : (byteAt s.reader.buffer 1).toNat ≤ 8 ∧
    s.judgeLength .probes (CueName.length .probes s.reader.buffer) = .ready c := by
  unfold State.judgeProbes at h
  split at h
  · cases h
  · split at h
    · cases h
    · split at h
      · cases h
      · next few => exact ⟨Nat.not_lt.1 few, h⟩

/-- A cue that passes every check is what the field checks read from its whole bytes at the cursor. -/
theorem State.verdict_reads (h : s.verdict = .ready c) : ∃ n : CueName,
    n.length s.reader.buffer ≤ s.reader.buffer.length ∧ (n = .probes → (byteAt s.reader.buffer 1).toNat ≤ 8) ∧
    cueFields n (s.reader.buffer.take (n.length s.reader.buffer)) s.regs.bases.cueSize s.settings.format.height =
      .good c := by
  unfold State.verdict State.judgeNamed at h
  split at h
  · cases h
  · split at h
    · cases h
    · next n _ =>
      split at h
      · cases h
      · split at h
        · next probes =>
          obtain ⟨few, judged⟩ := State.judgeProbes_reads h
          subst probes
          exact ⟨.probes, (State.judgeLength_reads judged).1, fun _ => few, (State.judgeLength_reads judged).2⟩
        · next other =>
          have length : n.length s.reader.buffer = n.baseLength := if_neg other
          obtain ⟨whole, read⟩ := State.judgeLength_reads h
          exact ⟨n, length.symm ▸ whole, fun probes => absurd probes other, length.symm ▸ read⟩

end

/-! ### Numbers in a cue's bytes -/

theorem natOf_lt (bs : List Byte) : natOf bs < 256 ^ bs.length := by
  induction bs with
  | nil => exact Nat.one_pos
  | cons b bs ih =>
    have low := b.isLt
    rw [natOf, List.length_cons, Nat.pow_succ]
    omega

/-- A field of `w` bytes holds a number of `w` bytes. -/
theorem fieldAt_lt (bs : List Byte) (i w : Nat) : fieldAt bs i w < 256 ^ w :=
  (natOf_lt _).trans_le (Nat.pow_le_pow_right (by decide) (List.length_take_le w _))

/-! ### The field checks (R161) -/

section
variable {bs : List Byte} {c : Cue}

theorem targetField_good {size : Nat} {mk : Nat → Cue} (h : targetField bs size mk = .good c) :
    ∃ t < size, c = mk t := by
  unfold targetField at h
  split at h
  · cases h
  · split at h
    · cases h
    · next inside => cases h; exact ⟨_, Nat.not_le.1 inside, rfl⟩

theorem eyeField_good (h : eyeField bs = .good c) : ∃ x, c = .eye x := by
  unfold eyeField at h
  split at h <;> cases h <;> exact ⟨_, rfl⟩

theorem formatFields_good (h : formatFields bs = .good c) : ∃ f : FormatSetting, c = .format f ∧ f.inRange = true := by
  unfold formatFields at h
  split at h
  · cases h
  · split at h
    · cases h
    · split at h
      · cases h
      · split at h
        · cases h
        · next width =>
          split at h
          · cases h
          · next height =>
            split at h
            · cases h
            · next size =>
              cases h
              refine ⟨_, rfl, ?_⟩
              simp only [FormatSetting.inRange, Bool.and_eq_true, decide_eq_true_eq, beq_iff_eq]
              omega

theorem orientField_good (h : orientField bs = .good c) : ∃ o, c = .orient o := by
  unfold orientField at h
  split at h <;> cases h <;> exact ⟨_, rfl⟩

theorem probesFields_good {height : Nat} (h : probesFields bs height = .good c) : ∃ p : ProbeSetting,
    c = .probes p ∧ p.rows.length = (byteAt bs 1).toNat ∧
      (p.rows.length ≤ 8 → p.inRange height = true) := by
  unfold probesFields at h
  split at h
  · cases h
  · next range =>
    split at h
    · cases h
    · split at h
      · cases h
      · next inside =>
        split at h
        · cases h
        · next distinct =>
          cases h
          refine ⟨_, rfl, ?_, fun few => ?_⟩
          · rw [probeRows, List.length_map, List.length_range]
          · simp only [ProbeSetting.inRange, Bool.and_eq_true, decide_eq_true_eq]
            exact ⟨⟨⟨few, Nat.not_lt.1 range⟩, by simpa using inside⟩, by simpa using distinct⟩

theorem linkField_good (h : linkField bs = .good c) : ∃ b, c = .link b := by
  unfold linkField at h
  split at h <;> cases h <;> exact ⟨_, rfl⟩

theorem matchFields_good (h : matchFields bs = .good c) : ∃ m : MatchSetting, c = .matching m ∧ m.inRange = true := by
  unfold matchFields at h
  split at h
  · cases h
  · split at h
    · cases h
    · next wait =>
      split at h
      · cases h
      · split at h
        · cases h
        · next window =>
          split at h
          · cases h
          · next limit =>
            cases h
            refine ⟨_, rfl, ?_⟩
            simp only [MatchSetting.inRange, Bool.and_eq_true, decide_eq_true_eq]
            omega

theorem trackFields_good (h : trackFields bs = .good c) : ∃ t : TrackSetting, c = .track t ∧ t.inRange = true := by
  unfold trackFields at h
  split at h
  · cases h
  · split at h
    · cases h
    · next settle =>
      split at h
      · cases h
      · next offset =>
        cases h
        refine ⟨_, rfl, ?_⟩
        have floor : fieldAt bs 4 2 < 65536 := fieldAt_lt bs 4 2
        simp only [TrackSetting.inRange, Bool.and_eq_true, decide_eq_true_eq]
        omega

theorem samplesFields_good (h : samplesFields bs = .good c) :
    ∃ x : SampleSetting, c = .samples x ∧ x.inRange = true := by
  unfold samplesFields at h
  split at h
  · cases h
  · split at h
    · cases h
    · next lead =>
      split at h
      · cases h
      · next age =>
        cases h
        refine ⟨_, rfl, ?_⟩
        simp only [SampleSetting.inRange, Bool.and_eq_true, decide_eq_true_eq]
        omega

theorem paceFields_good (h : paceFields bs = .good c) : ∃ p : PaceSetting, c = .pace p ∧ p.inRange = true := by
  unfold paceFields at h
  split at h
  · cases h
  · split at h
    · cases h
    · next period =>
      split at h
      · cases h
      · next limit =>
        cases h
        refine ⟨_, rfl, ?_⟩
        simp only [PaceSetting.inRange, Bool.and_eq_true, decide_eq_true_eq]
        omega

theorem targetFields_good (h : targetFields bs = .good c) : ∃ t : Target, c = .target t ∧ t.inRange = true := by
  unfold targetFields at h
  split at h
  · cases h
  · split at h
    · cases h
    · next placed =>
      cases h
      refine ⟨_, rfl, ?_⟩
      have address : fieldAt bs 8 8 < 2 ^ 64 := fieldAt_lt bs 8 8
      have size : fieldAt bs 4 4 < 2 ^ 32 := fieldAt_lt bs 4 4
      simp only [Target.inRange, word32At, Bool.and_eq_true, decide_eq_true_eq, beq_iff_eq, bne_iff_ne, ne_eq,
        BitVec.toNat_eq, BitVec.toNat_ofNat, Nat.mod_eq_of_lt address, Nat.mod_eq_of_lt size, Nat.zero_mod]
      omega

theorem valueField_good {mk : BitVec 32 → Cue} (h : valueField bs mk = .good c) : ∃ v, c = mk v := by
  unfold valueField at h
  split at h <;> cases h
  exact ⟨_, rfl⟩

theorem waitFields_good (h : waitFields bs = .good c) : ∃ w : WaitCondition, c = .wait w ∧ w.inRange = true := by
  have plain : ∀ {n w}, WaitCondition.inRange w = true → plainWait n w = .good c →
      ∃ w : WaitCondition, c = .wait w ∧ w.inRange = true := fun fits good => by
    unfold plainWait at good
    split at good <;> cases good
    exact ⟨_, rfl, fits⟩
  have counted : ∀ {n} {mk : Nat → WaitCondition}, (1 ≤ n → n ≤ 65535 → (mk n).inRange = true) →
      countedWait n mk = .good c → ∃ w : WaitCondition, c = .wait w ∧ w.inRange = true := fun fits good => by
    unfold countedWait at good
    split at good
    · cases good
    · next range => cases good; exact ⟨_, rfl, fits (by omega) (by omega)⟩
  have ranges : ∀ n : Nat, 1 ≤ n → n ≤ 65535 → (decide (1 ≤ n) && decide (n ≤ 65535)) = true := fun n low high => by
    simp [low, high]
  unfold waitFields at h
  split at h
  · cases h
  · split at h
    · cases h
    · split at h
      · exact plain rfl h
      · exact counted (ranges _) h
      · exact counted (ranges _) h
      · exact plain rfl h

/-- What the field checks read is the cue named, its values in range; PROBES under the check of its count (R140,
R161). -/
theorem cueFields_good {n : CueName} {size height : Nat} (h : cueFields n bs size height = .good c)
    (few : n = .probes → (byteAt bs 1).toNat ≤ 8) : c.name = n ∧ c.inRange size height = true := by
  cases n with
  | park | pad | ret | closeTake => cases h; exact ⟨rfl, rfl⟩
  | jump | call =>
    obtain ⟨t, inside, rfl⟩ := targetField_good h
    exact ⟨rfl, decide_eq_true inside⟩
  | eye => obtain ⟨x, rfl⟩ := eyeField_good h; exact ⟨rfl, rfl⟩
  | format => obtain ⟨f, rfl, range⟩ := formatFields_good h; exact ⟨rfl, range⟩
  | orient => obtain ⟨o, rfl⟩ := orientField_good h; exact ⟨rfl, rfl⟩
  | probes =>
    obtain ⟨p, rfl, count, range⟩ := probesFields_good h
    exact ⟨rfl, range (count ▸ few rfl)⟩
  | link => obtain ⟨b, rfl⟩ := linkField_good h; exact ⟨rfl, rfl⟩
  | matching => obtain ⟨m, rfl, range⟩ := matchFields_good h; exact ⟨rfl, range⟩
  | track => obtain ⟨t, rfl, range⟩ := trackFields_good h; exact ⟨rfl, range⟩
  | samples => obtain ⟨x, rfl, range⟩ := samplesFields_good h; exact ⟨rfl, range⟩
  | pace => obtain ⟨p, rfl, range⟩ := paceFields_good h; exact ⟨rfl, range⟩
  | target => obtain ⟨t, rfl, range⟩ := targetFields_good h; exact ⟨rfl, range⟩
  | openTake | note => obtain ⟨v, rfl⟩ := valueField_good h; exact ⟨rfl, rfl⟩
  | wait => obtain ⟨w, rfl, range⟩ := waitFields_good h; exact ⟨rfl, range⟩
  -- the recall cue: `recall` is a keyword of Mathlib and cannot name a case
  | _ => cases h; exact ⟨rfl, rfl⟩

end

/-- The count byte of a PROBES cue stands among its own bytes. -/
theorem byteAt_take_probes (bs : List Byte) : byteAt (bs.take (CueName.length .probes bs)) 1 = byteAt bs 1 :=
  byteAt_take (by
    have length : CueName.length .probes bs = 4 + 2 * (byteAt bs 1).toNat := rfl
    omega)

/-- A cue that passes every check has its values in range (R161). -/
theorem State.verdict_inRange {s : State} {c : Cue} (h : s.verdict = .ready c) :
    c.inRange s.regs.bases.cueSize s.settings.format.height = true := by
  obtain ⟨n, -, few, read⟩ := State.verdict_reads h
  refine (cueFields_good read fun probes => ?_).2
  subst probes
  rw [byteAt_take_probes]
  exact few rfl

/-- The length of a PROBES cue that passes every check is the one its rows take up (R140). -/
theorem State.verdict_probes_length {s : State} {p : ProbeSetting} (h : s.verdict = .ready (.probes p)) :
    CueName.length .probes s.reader.buffer = 4 + 2 * p.rows.length := by
  obtain ⟨n, -, few, read⟩ := State.verdict_reads h
  obtain rfl : CueName.probes = n := (cueFields_good read fun probes => by
    subst probes
    rw [byteAt_take_probes]
    exact few rfl).1
  obtain ⟨q, same, count, -⟩ := probesFields_good read
  cases same
  rw [byteAt_take_probes] at count
  rw [count]
  rfl

end Sys2Proof.Machine
end

section
/-! SUPPORT. The format-class cues (R103, R168 to R173). -/

namespace Sys2Proof.Machine

section
variable {s : State}

/-- A cue held while a take stands executes with the take CLOSED alone (R168). -/
theorem State.closed_of_formatClass {c : Cue} (ready : s.standsReady c)
    (held : s.holdOf c = if s.matcher.take = .closed then none else some .takeActive) : s.matcher.take = .closed := by
  by_contra active
  exact absurd ((if_neg active).symm.trans (held.symm.trans (State.verdict_ready ready.2).2)) nofun

theorem AlignmentUnit.restart_eq (a : AlignmentUnit) (t : TrackSetting) : a.restart t = match t.mode with
    | .auto => { a with offset := 0, candidate := none, agreement := 0 }
    | .fixed => { a with offset := t.fixedOffset } := by
  unfold AlignmentUnit.restart
  cases t.mode <;> rfl

theorem AlignmentUnit.reclamp_eq (a : AlignmentUnit) (t : TrackSetting) (range : Nat) :
    a.reclamp t range = match t.mode with
    | .auto => { a with
        offset := max (-(range : Int)) (min (range : Int) a.offset), candidate := none, agreement := 0 }
    | .fixed => a := by
  unfold AlignmentUnit.reclamp
  cases t.mode <;> rfl

/-- An eye is not covered where EYE has named the other eye alone (R147). -/
theorem not_covers_iff (p : Option EyeChoice) (e : Eye) : ¬ covers p e = true ↔ p = some (.only (otherEye e)) := by
  rcases p with _ | _ | x
  · simp [covers]
  · simp [covers]
  · cases x <;> cases e <;> simp [covers, otherEye]

/-- ORIENT sets the eyes that a preceding EYE covers (R147, R171). -/
theorem Settings.orientBy_eq (x : Settings) (p : Option EyeChoice) (o : Orientation) : x.orientBy p o = { x with
    orientLeft := if p = some (.only .right) then x.orientLeft else o
    orientRight := if p = some (.only .left) then x.orientRight else o } := by
  have covered : ∀ (e : Eye) (old : Orientation),
      (if covers p e then o else old) = if p = some (.only (otherEye e)) then old else o := fun e old =>
    (ite_not ..).symm.trans (if_congr (not_covers_iff p e) rfl rfl)
  unfold Settings.orientBy
  rw [covered .left, covered .right]
  rfl

end

end Sys2Proof.Machine

open Sys2Proof Sys2Proof.Machine

/-- Settles O47: each cue has passed its hold condition, and performs its effect, which is the one written out. -/
theorem formatCuesExecute : Obligations.FormatCuesExecute := by
  unfold Obligations.FormatCuesExecute
  intro s flushed restarted reclamped
  have restarts : flushed.align.restart s.settings.track = restarted := AlignmentUnit.restart_eq _ _
  refine ⟨fun f ready => ⟨State.closed_of_formatClass ready rfl, ?_⟩,
    fun o ready => ⟨State.closed_of_formatClass ready rfl, ?_⟩,
    fun p ready => ⟨State.closed_of_formatClass ready rfl, ?_⟩⟩
  · rw [← restarts]
    exact exec_of_standsReady ready
  · rw [← restarts]
    refine (exec_of_standsReady ready).trans ?_
    unfold State.perform State.effectOrient
    dsimp only
    simp only [Settings.orientBy_eq]
    rfl
  · have clamps : flushed.align.reclamp s.settings.track p.range = reclamped p.range := AlignmentUnit.reclamp_eq _ _ _
    rw [← clamps, ← State.verdict_probes_length ready.2]
    exact exec_of_standsReady ready

end

section
/-! SUPPORT. The settings and the offset tracker in range (R100, R161, R162), kept by every operation of every block
and so by every command: the cues set what their field checks have read, and the tracker takes offsets of
measurements, of TRACK cues, or within the search range. The proofs are elaborated one after another, as those of the
bounds are. -/

namespace Sys2Proof.Machine

set_option Elab.async false

/-! ### The settings alone -/

/-- Every setting is within the ranges of its cue. -/
structure Settings.Sound (x : Settings) : Prop where
  format : x.format.inRange = true
  probes : x.probes.inRange x.format.height = true
  matching : x.matching.inRange = true
  track : x.track.inRange = true
  samples : x.samples.inRange = true
  pace : x.pace.inRange = true

theorem Settings.defaults_sound (p : Straps) : (Settings.defaults p).Sound := by
  constructor <;> simp only [Settings.defaults] <;> decide

theorem ProbeSetting.inRange_iff (p : ProbeSetting) (height : Nat) : p.inRange height = true ↔
    p.rows.length ≤ 8 ∧ p.range ≤ 16 ∧ (∀ r ∈ p.rows, r < height) ∧ p.rows.Nodup := by
  simp [ProbeSetting.inRange, and_assoc]

/-- The rows that a new height leaves are in range under it (R93). -/
theorem ProbeSetting.below_inRange {p : ProbeSetting} {old : Nat} (h : p.inRange old = true) (height : Nat) :
    (p.below height).inRange height = true := by
  obtain ⟨few, range, -, distinct⟩ := (p.inRange_iff old).1 h
  exact (ProbeSetting.inRange_iff _ _).2 ⟨(List.length_filter_le _ _).trans few, range,
    fun r kept => of_decide_eq_true (List.mem_filter.1 kept).2, distinct.filter _⟩

namespace Settings.Sound
variable {x : Settings}

/-- The search range is 16 at most (R172). -/
theorem range (h : x.Sound) : x.probes.range ≤ 16 := ((ProbeSetting.inRange_iff _ _).1 h.probes).2.1

theorem formatted (h : x.Sound) {f : FormatSetting} (range : f.inRange = true) :
    { x with format := f, probes := x.probes.below f.height }.Sound :=
  { h with format := range, probes := ProbeSetting.below_inRange h.probes _ }

end Settings.Sound

/-! ### The Alignment Unit alone -/

theorem offsetSound_zero : offsetSound 0 := ⟨by decide, by decide⟩

/-- The fixed offset of a TRACK setting in range (R176). -/
theorem offsetSound_fixed {t : TrackSetting} (h : t.inRange = true) : offsetSound t.fixedOffset := by
  simp only [TrackSetting.inRange, Bool.and_eq_true, decide_eq_true_eq] at h
  exact ⟨h.1.1.2, h.1.2⟩

/-- A value clamped into a search range of 16 at most. -/
theorem offsetSound_clamp {range : Nat} (h : range ≤ 16) (x : Int) : offsetSound (clamp range x) := by
  unfold offsetSound clamp
  omega

/-- An absent value is in every range. -/
theorem forall_some_of_none {α : Type} {p : α → Prop} {x : Option α} (none : x = none) : ∀ c, x = some c → p c := by
  subst none
  exact nofun

/-- The offset and the candidate lie within −16..+16, and a measurement in progress searches no further. -/
structure AlignmentUnit.Sound (a : AlignmentUnit) : Prop where
  offset : offsetSound a.offset
  candidate : ∀ c, a.candidate = some c → offsetSound c
  busy : ∀ m, a.busy = some m → m.range ≤ 16

namespace AlignmentUnit.Sound
variable {a : AlignmentUnit}

theorem clearRun (h : a.Sound) : a.clearRun.Sound := { h with candidate := forall_some_of_none rfl }

theorem agree (h : a.Sound) {b : Int} (range : offsetSound b) : (a.agree b).Sound := by
  unfold AlignmentUnit.agree
  split
  · exact h.clearRun
  · split
    · exact { h with }
    · exact { h with candidate := fun c same => Option.some.inj same ▸ range }

theorem settle (h : a.Sound) (n : Nat) : (a.settle n).Sound := by
  unfold AlignmentUnit.settle
  split
  · next c candidate =>
    split
    · exact { h.clearRun with offset := h.candidate c candidate }
    · exact h
  · exact h

theorem track (h : a.Sound) (t : TrackSetting) {b : Int} (range : offsetSound b) : (a.track t b).Sound := by
  unfold AlignmentUnit.track
  split
  · exact (h.agree range).settle _
  · exact h

/-- A finding gives the tracker the offset it has measured (R99). -/
theorem take (h : a.Sound) (t : TrackSetting) {f : Finding} (range : ∀ m, f = .valid m → offsetSound m.offset) :
    (a.take t f).Sound := by
  unfold AlignmentUnit.take
  split
  · exact h
  · exact { h with }
  · exact { h.track t (range _ rfl) with }

theorem onTrack (h : a.Sound) (mode : TrackMode) {t : TrackSetting} (fixed : t.inRange = true) {range : Nat}
    (search : range ≤ 16) : (a.onTrack mode t range).Sound := by
  unfold AlignmentUnit.onTrack
  split
  · exact h.clearRun
  · exact { h.clearRun with offset := offsetSound_fixed fixed }
  · exact { h with offset := offsetSound_fixed fixed }
  · exact { h with offset := offsetSound_clamp search _ }

theorem restart (h : a.Sound) {t : TrackSetting} (fixed : t.inRange = true) : (a.restart t).Sound := by
  unfold AlignmentUnit.restart
  split
  · exact { h.clearRun with offset := offsetSound_zero }
  · exact { h with offset := offsetSound_fixed fixed }

theorem reclamp (h : a.Sound) (t : TrackSetting) {range : Nat} (search : range ≤ 16) : (a.reclamp t range).Sound := by
  unfold AlignmentUnit.reclamp
  split
  · exact { h.clearRun with offset := offsetSound_clamp search _ }
  · exact h

theorem start (h : a.Sound) : a.start.Sound := ⟨h.offset, forall_some_of_none rfl, forall_some_of_none rfl⟩

end AlignmentUnit.Sound

/-- A valid finding is the best of the scored candidates (R97). -/
theorem judgeScores_valid {cs : List (Int × Nat)} {floor : Nat} {r : Measurement}
    (h : judgeScores cs floor = .valid r) : ∃ b ∈ cs, b.1 = r.offset := by
  unfold judgeScores at h
  split at h
  · cases h
  · next b best =>
    split at h
    · cases h
    · split at h <;> cases h
      exact ⟨b, bestOf_mem best, rfl⟩

/-- A valid finding lies within the search range (R96). -/
theorem InProgress.finding_sound {m : InProgress} (search : m.range ≤ 16) {floor : Nat} {r : Measurement}
    (h : m.finding floor = .valid r) : offsetSound r.offset := by
  unfold InProgress.finding at h
  split at h
  · obtain ⟨⟨d, y⟩, scored, same⟩ := judgeScores_valid h
    obtain ⟨⟨low, high⟩, -⟩ := (m.mem_scored d y).1 scored
    rw [← same]
    exact ⟨by dsimp only; omega, by dsimp only; omega⟩
  · cases h

/-! ### The invariant -/

/-- The settings, the tracker, and every applied offset written into an entry are in range. -/
structure State.Tuned (s : State) : Prop where
  settings : s.settings.Sound
  align : s.align.Sound
  applied : ∀ x ∈ s.matcher.table, ∀ a, x.applied = some a → offsetSound a

/-- The invariant is that of the statements. -/
theorem State.tuned_iff (s : State) : s.Tuned ↔ s.settingsSound ∧ s.trackerSound := by
  constructor
  · intro h
    exact ⟨⟨h.settings.format, h.settings.probes, h.settings.matching, h.settings.track, h.settings.samples,
      h.settings.pace⟩, h.align.offset, h.align.candidate, h.align.busy, h.applied⟩
  · rintro ⟨⟨format, probes, matching, track, samples, pace⟩, offset, candidate, busy, applied⟩
    exact ⟨{ format, probes, matching, track, samples, pace }, { offset, candidate, busy }, applied⟩

namespace State.Tuned
variable {s t : State}

/-- The invariant reads the settings, the Alignment Unit and the pair table alone. -/
theorem congr (h : s.Tuned) (settings : t.settings = s.settings := by simp) (align : t.align = s.align := by simp)
    (table : t.matcher.table = s.matcher.table := by simp) : t.Tuned :=
  ⟨settings ▸ h.settings, align ▸ h.align, table ▸ h.applied⟩

theorem onReceiver (h : s.Tuned) (e f) : (s.onReceiver e f).Tuned := h.congr
theorem onPort (h : s.Tuned) (p f) : (s.onPort p f).Tuned := h.congr
theorem onRegs (h : s.Tuned) (f) : (s.onRegs f).Tuned := { h with }
theorem onStore (h : s.Tuned) (f) : (s.onStore f).Tuned := { h with }
theorem onPace (h : s.Tuned) (f) : (s.onPace f).Tuned := { h with }
theorem onDelivery (h : s.Tuned) (f) : (s.onDelivery f).Tuned := { h with }
theorem onWriter (h : s.Tuned) (f) : (s.onWriter f).Tuned := { h with }
theorem onReader (h : s.Tuned) (f) : (s.onReader f).Tuned := { h with }
theorem setCause (h : s.Tuned) (c) : (s.setCause c).Tuned := h.congr
theorem place (h : s.Tuned) (r) : (s.place r).Tuned := h.congr

/-- A change of the pair table that writes no applied offset. -/
theorem onMatcher (h : s.Tuned) {f : PairMatcher → PairMatcher}
    (entries : ∀ x ∈ (f s.matcher).table, ∃ y ∈ s.matcher.table, y.applied = x.applied) : (s.onMatcher f).Tuned :=
  { h with
    applied := fun x inside a written => by
      obtain ⟨y, among, same⟩ := entries x inside
      exact h.applied y among a (same.trans written) }

theorem onAlign (h : s.Tuned) {f : AlignmentUnit → AlignmentUnit} (sound : (f s.align).Sound) :
    (s.onAlign f).Tuned := { h with align := sound }

theorem onSettings (h : s.Tuned) {f : Settings → Settings} (sound : (f s.settings).Sound) :
    (s.onSettings f).Tuned := { h with settings := sound }

/-- A conditional effect. -/
theorem ite {p : Prop} [Decidable p] (yes : p → s.Tuned) (no : ¬ p → t.Tuned) : (if p then s else t).Tuned := by
  split
  · exact yes ‹_›
  · exact no ‹_›

/-! ### The Pair Matcher -/

theorem closeCheck (h : s.Tuned) : s.closeCheck.Tuned := by
  obtain same | ⟨-, -, closed⟩ := s.closeCheck_cases
  · rw [same]; exact h
  · rw [closed]; exact h.congr (by simp [State.completeClose]) (by simp [State.completeClose])
      (by simp [State.completeClose])

/-- A pair's entry has no applied offset yet, and an orphan's takes the one that stands (R62, R63). -/
theorem act (h : s.Tuned) (a : s.Act t) : t.Tuned := by
  cases a with
  | pair l r _ _ _ =>
    obtain ⟨m, _, _, table, formed⟩ := s.formPair_eq l r
    rw [formed]
    refine ⟨h.settings, { h.align with }, fun x inside a written => ?_⟩
    rw [show _ = s.matcher.table ++ _ from table] at inside
    obtain among | new := List.mem_append.1 inside
    · exact h.applied x among a written
    · rw [List.mem_singleton.1 new] at written
      cases written
  | orphan e f _ _ =>
    refine ⟨h.settings, h.align, fun x inside a written => ?_⟩
    rw [State.formOrphan_table] at inside
    obtain among | new := List.mem_append.1 inside
    · exact h.applied x among a written
    · rw [List.mem_singleton.1 new] at written
      cases written
      exact h.align.offset
  | release e f _ => exact h.congr rfl rfl (s.releaseOrphan_table e f)

theorem pass (h : s.Tuned) : s.pass.Tuned := State.pass_induction (fun _ _ h a => h.act a) (fun _ h => h.closeCheck) h

theorem dispose (h : s.Tuned) : s.dispose.Tuned := h.pass.closeCheck

theorem takeTick (h : s.Tuned) : s.takeTick.Tuned := dispose (h.congr rfl rfl rfl)

theorem takeOwedTick (h : s.Tuned) : s.takeOwedTick.Tuned := ite (fun _ => takeTick (h.congr rfl rfl rfl)) fun _ => h

theorem matcherTick (h : s.Tuned) : s.matcherTick.Tuned := ite (fun _ => h) fun _ => h.takeOwedTick.takeTick

theorem matcherTickLater (h : s.Tuned) : s.matcherTickLater.Tuned :=
  ite (fun _ => h) fun _ => ite (fun _ => h.takeOwedTick.congr) fun _ => h.takeOwedTick.takeTick

/-! ### The Link Receivers -/

theorem cutFilling (h : s.Tuned) (e) : (s.cutFilling e).Tuned := by
  unfold State.cutFilling
  split
  · exact h
  · exact ((h.onStore _).onReceiver e _).closeCheck

theorem changeSync (h : s.Tuned) (e g) : (s.changeSync e g).Tuned := by
  unfold State.changeSync State.tellLeft
  refine ite (fun _ => pass ?_) fun _ => h.onReceiver e g
  refine onMatcher (((h.cutFilling e).onReceiver e g).setCause .link) fun x inside => ⟨x, ?_, rfl⟩
  unfold PairMatcher.leftLock at inside
  split at inside <;> exact inside

theorem enterFrameLock (h : s.Tuned) (e) : (s.enterFrameLock e).Tuned := by
  unfold State.enterFrameLock
  exact ((h.onReceiver e _).setCause _).pass.onReader _

theorem lockedRow (h : s.Tuned) (e length mark body) : (s.lockedRow e length mark body).Tuned := by
  unfold State.lockedRow State.fillRow
  refine ite (fun _ => h.changeSync e _) fun _ => ?_
  split
  · exact h.congr
  · exact ite (fun _ => h.congr) fun _ => h.congr

theorem rowAtPosition (h : s.Tuned) (e mark body) : (s.rowAtPosition e mark body).Tuned := by
  unfold State.rowAtPosition State.takeRow
  split
  · exact h
  · refine ite (fun _ => ?_) fun _ => h
    split
    · exact h.onReceiver e _
    · exact h.lockedRow _ _ _ _
    · exact h.lockedRow _ _ _ _
    all_goals exact h

theorem completeIfFilling (h : s.Tuned) (e tail) : (s.completeIfFilling e tail).Tuned := by
  unfold State.completeIfFilling State.completeFrame
  split
  · exact h
  · split
    · exact ((h.onStore _).onReceiver e _).dispose
    · exact h.onReceiver e _

theorem arrival (h : s.Tuned) (e head) : (s.arrival e head).Tuned := by
  unfold State.arrival State.claim State.slip State.beginFill
  refine ite (fun _ => ?_) fun _ => (h.onReceiver e _).onReceiver e _
  split
  · exact ((h.onReceiver e _).onReceiver e _).setCause _
  · exact (((h.onReceiver e _).onStore _).onReceiver e _).closeCheck

theorem takeHead (h : s.Tuned) (e head) : (s.takeHead e head).Tuned := by
  have passed : (s.onReceiver e fun r => r.passBoundary 24).Tuned := h.onReceiver e _
  unfold State.takeHead State.headInRowLock State.headInFrameLock State.countBadHead
  dsimp only
  split
  · exact ite (fun _ => (passed.enterFrameLock e).arrival e head) fun _ => passed.onReceiver e _
  · exact ite (fun _ => ((passed.onReceiver e _).completeIfFilling e none).arrival e head) fun _ =>
      (passed.onReceiver e _).changeSync e _
  all_goals exact passed

theorem takeTail (h : s.Tuned) (e tail) : (s.takeTail e tail).Tuned :=
  ite (fun _ => (h.onReceiver e _).completeIfFilling e _) fun _ => h.onReceiver e _

/-- In OFF a link command discards its bytes, and elsewhere it has its effect (R3). -/
theorem unlessOff (h : s.Tuned) (effect : t.Tuned) (e f) : (s.unlessOff e f t).Tuned :=
  ite (fun _ => h.onReceiver e f) fun _ => effect

theorem takeSilenceTick (h : s.Tuned) (e) : (s.takeSilenceTick e).Tuned := by
  unfold State.takeSilenceTick
  dsimp only
  split
  · exact ite (fun _ => h.onReceiver e _) fun _ => h.changeSync e _
  · exact ite (fun _ => h.onReceiver e _) fun _ => h.changeSync e _
  all_goals exact h

theorem takeOwedSilence (h : s.Tuned) (e) : (s.takeOwedSilence e).Tuned :=
  ite (fun _ => (h.onReceiver e _).takeSilenceTick e) fun _ => h

theorem linkOff (h : s.Tuned) (e) : (s.linkOff e).Tuned := ite (fun _ => h) fun _ => h.changeSync e _

theorem tellLink (h : s.Tuned) (p enable e) : (s.tellLink p enable e).Tuned :=
  ite (fun _ => ite (fun _ => ite (fun _ => h.onReceiver e _) fun _ => h) fun _ => h.linkOff e) fun _ => h

/-! ### The Alignment Unit and the Delivery Engine -/

theorem measurementDone (h : s.Tuned) {m : InProgress} (busy : s.align.busy = some m) :
    (s.measurementDone m).Tuned := by
  have taken := h.align.take s.settings.track (f := m.finding s.settings.track.floor) fun _ =>
    InProgress.finding_sound (h.align.busy m busy)
  have idle : (s.onAlign fun a => { a.take s.settings.track (m.finding s.settings.track.floor) with
      busy := none, looking := true }).Tuned := h.onAlign { taken with busy := forall_some_of_none rfl }
  unfold State.measurementDone State.finishEntry State.removeIdle
  dsimp only
  split
  · exact idle
  · split
    · refine { idle with applied := fun x inside a written => ?_ }
      obtain ⟨y, among, rfl⟩ := List.mem_map.1 inside
      split at written
      · cases written
        exact taken.offset
      · exact h.applied y among a written
    · refine ((onMatcher idle fun x inside => ⟨x, ?_, rfl⟩).onStore _).dispose
      exact List.mem_of_mem_erase inside

theorem startDelivery (h : s.Tuned) (target entry) : (s.startDelivery target entry).Tuned := by
  unfold State.startDelivery State.shortTarget State.beginCopy
  refine ite (fun _ => (h.onDelivery _).place _) fun _ => ?_
  refine onMatcher ((h.onWriter _).onDelivery _) fun x inside => ?_
  unfold PairMatcher.deliverHead at inside
  dsimp only at inside
  split at inside
  · next y rest table =>
    obtain rfl | later := List.mem_cons.1 inside
    · exact ⟨y, table ▸ List.mem_cons_self, rfl⟩
    · exact ⟨x, table ▸ List.mem_cons_of_mem _ later, rfl⟩
  · cases inside

theorem completeCopy (h : s.Tuned) (c entry) : (s.completeCopy c entry).Tuned := by
  unfold State.completeCopy State.placeReserved
  have carried : (s.carryAll (c.remaining s.store.mem entry)).Tuned := { h with }
  dsimp only
  refine State.Tuned.onReader (dispose (((onMatcher ((carried.onWriter _).place _)
    fun x inside => ⟨x, ?_, rfl⟩).onStore _).onDelivery _)) _
  exact List.mem_of_mem_erase inside

/-! ### The Result Writer and the Cue Reader -/

theorem consumedReturned (h : s.Tuned) (v) : (s.consumedReturned v).Tuned := by
  unfold State.consumedReturned State.judgeAgain State.issueRecord State.lacksRoom
  split
  · exact h.congr
  · exact ite (fun _ => h.congr) fun _ => ite (fun _ => h.congr) fun _ => h.congr

theorem writerTick (h : s.Tuned) : s.writerTick.Tuned := ite (fun _ => h.congr rfl rfl rfl) fun _ => h

theorem statusTick (h : s.Tuned) : s.statusTick.Tuned := by
  unfold State.statusTick State.statusOrSkip State.issueStatus
  exact ite (fun _ => ite (fun _ => h.congr) fun _ => ite (fun _ => h) fun _ => h.congr) fun _ => h

theorem readerTick (h : s.Tuned) : s.readerTick.Tuned := by
  unfold State.readerTick
  split
  · exact ite (fun _ => h.congr) fun _ => h
  · exact h.congr

theorem tryFetch (h : s.Tuned) : s.tryFetch.Tuned := ite (fun _ => h.congr) fun _ => h

theorem resume (h : s.Tuned) : s.resume.Tuned :=
  h.congr s.resume_decodesOn.settings s.resume_decodesOn.align (congrArg _ s.resume_decodesOn.matcher)

theorem setReader (h : s.Tuned) (x) : (s.setReader x).Tuned := h.congr rfl rfl rfl

theorem fetchReturned (h : s.Tuned) (f word) : (s.fetchReturned f word).Tuned := by
  have placed : ((s.onReader fun r => { r with fetch := none }).onReader fun r => r.placeWord word).Tuned := h.congr
  unfold State.fetchReturned State.afterWord
  refine ite (fun _ => h.congr) fun _ => ite (fun _ => ?_) fun _ => tryFetch h.congr
  split
  · exact ite (fun _ => (placed.setReader _).resume) fun _ => placed
  · exact placed.resume

theorem advancePast (h : s.Tuned) (n) : (s.advancePast n).Tuned := resume h.congr

theorem jumpTo (h : s.Tuned) (cursor) : (s.jumpTo cursor).Tuned := resume h.congr

/-! ### Pace ticks and the Pace Generator -/

theorem ageSamples (h : s.Tuned) (p) : (s.ageSamples p).Tuned := h.onPort p _

theorem observe (h : s.Tuned) (o : TickObserver) : (s.observe o).Tuned := by
  cases o with
  | linkReceiver e => exact (h.takeOwedSilence e).takeSilenceTick e
  | samplePort p => exact h.ageSamples p
  | pairMatcher => exact h.matcherTick
  | cueReader => exact h.readerTick
  | resultWriter => exact h.writerTick.statusTick

theorem observeLater (h : s.Tuned) (o : TickObserver) : (s.observeLater o).Tuned := by
  cases o with
  | linkReceiver e =>
    exact ite (fun _ => (h.takeOwedSilence e).onReceiver e _) fun _ => (h.takeOwedSilence e).takeSilenceTick e
  | pairMatcher => exact h.matcherTickLater
  | samplePort p => exact h.observe (.samplePort p)
  | cueReader => exact h.observe .cueReader
  | resultWriter => exact h.observe .resultWriter

theorem tick (h : s.Tuned) (order : List TickObserver) : (s.tick order).Tuned :=
  List.foldlRecOn _ _ (List.foldlRecOn _ _ h fun _ h o _ => h.observe o) fun _ h o _ => h.observeLater o

theorem enterHoldover (h : s.Tuned) (base order) : (s.enterHoldover base order).Tuned := by
  unfold State.enterHoldover
  dsimp only
  split
  · split
    · exact ((((h.onPace _).onPace _).setCause _).tick order).setCause _
    · exact (((h.onPace _).onPace _).tick order).setCause _
  · exact ((h.onPace _).onPace _).setCause _

theorem seekLock (h : s.Tuned) (i order) : (s.seekLock i order).Tuned := by
  unfold State.seekLock State.completeLock
  exact ite (fun _ => (((h.onPace _).onPace _).tick order).setCause _) fun _ => h.onPace _

theorem takePulse (h : s.Tuned) (order) : (s.takePulse order).Tuned := by
  have noted : (s.onPace fun g => { g with previousPulse := some s.now }).Tuned := h.onPace _
  unfold State.takePulse State.judgedPulse State.followPulse
  dsimp only
  split
  · exact noted
  · split
    · exact ite (fun _ => ((noted.onPace _).onPace _).tick order) fun _ => (noted.onPace _).enterHoldover _ order
    all_goals exact (noted.onPace _).seekLock _ order

theorem timerTick (h : s.Tuned) (timer order) : (s.timerTick timer order).Tuned := by
  unfold State.timerTick
  exact tick (ite (fun _ => (h.onPace _).setCause _) fun _ => h.onPace _) order

/-! ### The cues -/

theorem flush (h : s.Tuned) (counted) : (s.flush counted).Tuned := by
  have emptied := (((h.onReceiver .left (Receiver.flushCut counted)).onReceiver .right
    (Receiver.flushCut counted)).onStore (FrameStore.flush · counted)).onMatcher (f := PairMatcher.emptied)
      fun _ inside => absurd inside List.not_mem_nil
  exact emptied.onAlign { emptied.align with busy := forall_some_of_none rfl }

/-- The cues with a setting: each sets what is in range, and the tracker follows it (R102, R103, R162). -/
theorem perform (h : s.Tuned) {c : Cue} {size : Nat} (range : c.inRange size s.settings.format.height = true) :
    (s.perform c).Tuned := by
  cases c with
  | park => exact (h.setReader _).setCause _
  | pad => exact h.advancePast _
  | jump a => exact h.jumpTo _
  | call a =>
    exact (h.onReader _).jumpTo a
  | ret =>
    unfold State.perform State.effectReturn
    dsimp only
    split
    · exact h
    · exact (h.onReader _).jumpTo _
  | eye x => exact (h.onReader _).advancePast _
  | format f =>
    refine advancePast (((h.flush true).onSettings (h.settings.formatted range)).onAlign ?_) _
    exact (h.flush true).align.restart h.settings.track
  | orient o =>
    have set : ((s.flush true).onSettings fun x => x.orientBy s.reader.eyePrefix o).clearPrefix.Tuned :=
      congr ((h.flush true).onSettings (f := fun x => x.orientBy s.reader.eyePrefix o) { h.settings with }) rfl rfl rfl
    exact advancePast (set.onAlign (set.align.restart h.settings.track)) _
  | probes p =>
    refine advancePast (((h.flush true).onSettings (f := fun x => { x with probes := p })
      { h.settings with probes := range }).onAlign ?_) _
    exact (h.flush true).align.reclamp _ ((ProbeSetting.inRange_iff _ _).1 range).2.1
  | link enable =>
    have set : (s.onSettings fun x => x.linkBy s.reader.eyePrefix enable).clearPrefix.Tuned :=
      congr (h.onSettings (f := fun x => x.linkBy s.reader.eyePrefix enable) { h.settings with }) rfl rfl rfl
    exact ((set.tellLink _ _ _).tellLink _ _ _).advancePast _
  | matching m =>
    have set : (s.onSettings fun x => { x with matching := m }).Tuned :=
      h.onSettings { h.settings with matching := range }
    exact advancePast (pass (set.onMatcher fun x inside => ⟨x, inside, rfl⟩)) _
  | track x =>
    have set : (s.onSettings fun y => { y with track := x }).Tuned := h.onSettings { h.settings with track := range }
    exact advancePast (set.onAlign (h.align.onTrack _ range h.settings.range)) _
  | samples x =>
    have set : (s.onSettings fun y => { y with samples := x }).Tuned :=
      h.onSettings { h.settings with samples := range }
    exact set.advancePast _
  | pace p =>
    have set : (s.onSettings fun x => { x with pace := p }).Tuned := h.onSettings { h.settings with pace := range }
    exact (set.onPace _).advancePast _
  | target x => exact (h.onDelivery _).advancePast _
  | openTake n =>
    have opened : (s.onMatcher fun m => m.openTake n s.now).Tuned := h.congr rfl rfl rfl
    exact (opened.place _).advancePast _
  | closeTake =>
    have closing : (s.onMatcher fun m => { m with take := .closing, closeStamp := some s.now }).Tuned :=
      h.congr rfl rfl rfl
    exact closing.closeCheck.advancePast _
  | note v => exact (h.place _).advancePast _
  | wait w => exact (h.onReader _).resume
  -- the recall cue: `recall` is a keyword of Mathlib and cannot name a case
  | _ => exact ((h.onDelivery _).place _).advancePast _

/-- What executes has passed its field checks (R142, R161). -/
theorem performReady (h : s.Tuned) {c : Cue} (ready : s.verdict = .ready c) : (s.perform c).Tuned :=
  h.perform (State.verdict_inRange ready)

theorem cueCommand (h : s.Tuned) (n) : (s.cueCommand n).Tuned := by
  unfold State.cueCommand State.holdCue
  split
  · next ready => exact ite (fun _ => h.performReady ready) fun _ => h
  · exact ite (fun _ => (h.setReader _).tryFetch) fun _ => h
  · exact h

theorem judgeHeld (h : s.Tuned) : s.judgeHeld.Tuned := by
  unfold State.judgeHeld
  split
  · next ready => exact h.performReady ready
  · exact h.setReader _
  · exact h

/-! ### The Register Window -/

/-- With the pair table empty, the settings and the tracker are all there is. -/
theorem of_empty (settings : s.settings.Sound) (align : s.align.Sound) (table : s.matcher.table = []) : s.Tuned :=
  ⟨settings, align, by rw [table]; exact fun _ inside => absurd inside List.not_mem_nil⟩

/-- The reset values are in range (R109, R162). -/
theorem anew (p : Straps) (settings : s.settings = Settings.defaults p) (align : s.align = AlignmentUnit.reset)
    (table : s.matcher.table = []) : s.Tuned := by
  refine of_empty ?_ ?_ table
  · rw [settings]
    exact Settings.defaults_sound p
  · rw [align]
    exact ⟨offsetSound_zero, forall_some_of_none rfl, forall_some_of_none rfl⟩

theorem commandStart (h : s.Tuned) : s.commandStart.Tuned := by
  have accepted : s.acceptStart.Tuned := by
    unfold State.acceptStart State.halt
    exact ite (fun _ => h.congr) fun _ => h.congr
  unfold State.commandStart
  split
  · exact accepted
  · exact accepted
  all_goals exact h.congr rfl rfl rfl

theorem commandStop (h : s.Tuned) : s.commandStop.Tuned := by
  have accepted : s.acceptStop.Tuned := by
    unfold State.acceptStop State.stopActions State.dropPartials
    have stopped : ((s.onRegs fun r =>
        { r with outcome := .accepted, run := .draining, drainedStarting := r.run == .starting }).onMatcher fun m =>
        { m with state := .stopped, tickOwed := false }).Tuned := h.congr rfl rfl rfl
    have dropped := ((((stopped.linkOff .left).linkOff .right).onPort .leftLens SamplePort.dropPartial).onPort
      .rightLens SamplePort.dropPartial).onPort .rig SamplePort.dropPartial
    exact setReader (dropped.onAlign { dropped.align with busy := forall_some_of_none rfl }) .off
  unfold State.commandStop
  split
  · exact accepted
  · exact accepted
  all_goals exact h.congr rfl rfl rfl

theorem writeRegister (h : s.Tuned) (offset v) : (s.writeRegister offset v).Tuned := by
  unfold State.writeRegister State.writeControl State.writeCause State.writeEnable
  split
  · split
    · exact h.commandStart
    · exact h.commandStop
    · exact anew s.straps rfl rfl rfl
    · exact h
  all_goals exact h.congr

/-- The START actions keep the applied offset, and clear the candidate and the pair table (R109, R192). -/
theorem enterRunning (h : s.Tuned) (header exchange) : (s.enterRunning header exchange).Tuned := by
  have flushed : ((s.onRegs fun r => r.enterRunning header exchange).flush false).Tuned := flush (h.onRegs _) false
  have caused : ∀ {u : State} (e), u.Tuned → (u.startCause e).Tuned := fun _ g =>
    ite (fun _ => g.setCause _) fun _ => g
  have linked := State.Tuned.onReceiver ((caused .right (caused .left flushed)).onReceiver .left
    (Receiver.start s.settings.linkLeft)) .right (Receiver.start s.settings.linkRight)
  exact tryFetch (of_empty linked.settings linked.align.start rfl)

theorem busError (h : s.Tuned) : s.busError.Tuned := by
  have dropped : (State.dropCopy { s with carried := s.abandoned }).Tuned := h.congr rfl rfl rfl
  unfold State.busError State.dropPartials State.halt
  exact dropped.congr

theorem acceptFinal (h : s.Tuned) : s.acceptFinal.Tuned := by
  unfold State.acceptFinal
  split
  · exact h
  · exact ite (fun _ => h.congr rfl rfl rfl) fun _ => h

/-- Entry to IDLE keeps the settings and the tracker (R109, R194). -/
theorem enterIdle (h : s.Tuned) : s.enterIdle.Tuned :=
  of_empty (h.flush false).settings { (h.flush false).align with } rfl

/-! ### The commands -/

theorem headerReadReturn (h : s.Tuned) (header) : ∃ t, exec (.headerReadReturn header) s = .next t ∧ t.Tuned := by
  refine ⟨_, rfl, ?_⟩
  split
  · exact h
  · have returned : (s.onRegs fun r => { r with headerRead := none }).Tuned := h.congr
    refine ite (fun _ => ?_) fun _ => returned
    unfold State.judgeHeader State.halt
    exact ite (fun _ => returned.enterRunning _ _) fun _ => returned.congr

theorem tickTimerExpiry (h : s.Tuned) (order) : ∃ t, exec (.tickTimerExpiry order) s = .next t ∧ t.Tuned := by
  refine ⟨_, rfl, ?_⟩
  split
  · exact h
  · exact h.timerTick _ order

theorem holdoverLimitReached (h : s.Tuned) (order) :
    ∃ t, exec (.holdoverLimitReached order) s = .next t ∧ t.Tuned := by
  refine ⟨_, rfl, ?_⟩
  split
  · exact h
  · exact ite (fun _ => h.timerTick _ order) fun _ => h

/-- A measurement searches within the setting's range (R93, R95). -/
theorem measurementBegin (h : s.Tuned) : ∃ t, exec .measurementBegin s = .next t ∧ t.Tuned := by
  refine ⟨_, rfl, ite (fun _ => ?_) fun _ => h⟩
  split
  · exact h
  · exact h.onAlign { h.align with busy := fun m begun => Option.some.inj begun ▸ h.settings.range }

theorem measurementEnd (h : s.Tuned) : ∃ t, exec .measurementDone s = .next t ∧ t.Tuned := by
  refine ⟨_, rfl, ?_⟩
  split
  · exact h
  · next busy => exact h.measurementDone busy

theorem deliveryStart (h : s.Tuned) : ∃ t, exec .deliveryStart s = .next t ∧ t.Tuned := by
  refine ⟨_, rfl, ite (fun _ => ?_) fun _ => h⟩
  split
  · exact h.startDelivery _ _
  · exact h

theorem copyCompletion (h : s.Tuned) (writes) : ∃ t, exec (.copyCompletion writes) s = .next t ∧ t.Tuned := by
  refine ⟨_, rfl, ?_⟩
  split
  · refine ite (fun _ => ?_) fun _ => h
    split
    · exact h.completeCopy _ _
    · exact h.congr rfl rfl rfl
  · exact h

theorem recordWriteAccepted (h : s.Tuned) : ∃ t, exec .recordWriteAccepted s = .next t ∧ t.Tuned := by
  refine ⟨_, rfl, ?_⟩
  split
  · exact h
  · exact ite (fun _ => h.congr) fun _ => h

theorem statusWriteAccepted (h : s.Tuned) : ∃ t, exec .statusWriteAccepted s = .next t ∧ t.Tuned := by
  refine ⟨_, rfl, ?_⟩
  split
  · exact h
  · exact ite (fun _ => h.congr rfl rfl rfl) fun _ => h

theorem cueFetchReturn (h : s.Tuned) (word) : ∃ t, exec (.cueFetchReturn word) s = .next t ∧ t.Tuned := by
  refine ⟨_, rfl, ?_⟩
  split
  · exact h
  · exact h.fetchReturned _ word

theorem faultRecordPlaced (h : s.Tuned) : ∃ t, exec .faultRecordPlaced s = .next t ∧ t.Tuned := by
  refine ⟨_, rfl, ?_⟩
  split
  · exact ite (fun _ => h.congr) fun _ => h
  · exact h

theorem holdRelease (h : s.Tuned) : ∃ t, exec .holdRelease s = .next t ∧ t.Tuned := by
  refine ⟨_, rfl, ?_⟩
  split
  · exact h.judgeHeld
  · exact h

theorem waitEnd (h : s.Tuned) : ∃ t, exec .waitEnd s = .next t ∧ t.Tuned := by
  refine ⟨_, rfl, ?_⟩
  split
  · exact (h.setReader _).resume
  · exact h

/-- Every command keeps the settings and the tracker in range. -/
theorem exec (h : s.Tuned) (c : Instr) : ∃ t, exec c s = .next t ∧ t.Tuned := by
  cases c with
  | powerOnReset pins => exact ⟨_, rfl, anew (sampleStraps pins) rfl rfl rfl⟩
  | pcieLinkReset pins => exact ⟨_, rfl, anew (sampleStraps pins) rfl rfl rfl⟩
  | start => exact ⟨_, rfl, h.commandStart⟩
  | stop => exact ⟨_, rfl, h.commandStop⟩
  | reset => exact ⟨_, rfl, anew s.straps rfl rfl rfl⟩
  | causeWrite v => exact ⟨_, rfl, h.writeRegister 0x0C v⟩
  | enableWrite v => exact ⟨_, rfl, h.writeRegister 0x10 v⟩
  | registerWrite offset width v =>
    cases width with
    | word => exact ⟨_, rfl, h.writeRegister _ v⟩
    | byte => exact ⟨_, rfl, h⟩
    | half => exact ⟨_, rfl, h⟩
  | headerReadReturn header => exact h.headerReadReturn header
  | busError a => exact ⟨_, rfl, ite (fun _ => h.busError) fun _ => h⟩
  | readTimeout a => exact ⟨_, rfl, ite (fun _ => h.busError) fun _ => h⟩
  | referencePulse order => exact ⟨_, rfl, ite (fun _ => h.takePulse order) fun _ => h⟩
  | lossDeadlineExpiry order => exact ⟨_, rfl, ite (fun _ => h.enterHoldover _ order) fun _ => h⟩
  | tickTimerExpiry order => exact h.tickTimerExpiry order
  | holdoverLimitReached order => exact h.holdoverLimitReached order
  | silenceExpiry e => exact ⟨_, rfl, h.takeOwedSilence e⟩
  | huntMarkFound e position mark =>
    exact ⟨_, rfl, h.unlessOff (ite (fun _ => h.onReceiver e _) fun _ => h) e _⟩
  | verifyMark e position mark => exact ⟨_, rfl, h.unlessOff (ite (fun _ => h.onReceiver e _) fun _ => h) e _⟩
  | rowPosition e mark body => exact ⟨_, rfl, h.unlessOff (h.rowAtPosition e mark body) e _⟩
  | frameHead e head => exact ⟨_, rfl, h.unlessOff (ite (fun _ => h.takeHead e head) fun _ => h) e _⟩
  | frameTail e tail => exact ⟨_, rfl, h.unlessOff (ite (fun _ => h.takeTail e tail) fun _ => h) e _⟩
  | fillUnit e fill => exact ⟨_, rfl, h.unlessOff (ite (fun _ => h.onReceiver e _) fun _ => h) e _⟩
  | partnerWaitExpiry => exact ⟨_, rfl, ite (fun _ => h) fun _ => h.takeOwedTick⟩
  | takeCloseCompletion => exact ⟨_, rfl, ite (fun _ => h.takeOwedTick) fun _ => h⟩
  | sampleMessage port c framing => exact ⟨_, rfl, ite (fun _ => ite (fun _ => h.congr) fun _ => h) fun _ => h⟩
  | messageDeadlineExpiry port => exact ⟨_, rfl, ite (fun _ => h.congr) fun _ => h⟩
  | measurementBegin => exact h.measurementBegin
  | measurementDone => exact h.measurementEnd
  | deliveryStart => exact h.deliveryStart
  | copyCompletion writes => exact h.copyCompletion writes
  | recordWriteAccepted => exact h.recordWriteAccepted
  | consumedReadReturn v => exact ⟨_, rfl, ite (fun _ => h.consumedReturned v) fun _ => h⟩
  | statusWriteAccepted => exact h.statusWriteAccepted
  | drainingEndReached => exact ⟨_, rfl, ite (fun _ => h.congr rfl rfl rfl) fun _ => h⟩
  | endOfDraining =>
    exact ⟨_, rfl, ite (fun _ => ite (fun _ => enterIdle (ite (fun _ => h.acceptFinal) fun _ => h)) fun _ => h)
      fun _ => h⟩
  | cueFetchReturn word => exact h.cueFetchReturn word
  | faultRecordPlaced => exact h.faultRecordPlaced
  | holdRelease => exact h.holdRelease
  | waitEnd => exact h.waitEnd
  | sampleCharacter port c framing => exact ⟨_, rfl, ite (fun _ => h.congr) fun _ => h⟩
  | configurationAccess msi busMaster => exact ⟨_, rfl, h.congr rfl rfl rfl⟩
  -- every other command is a cue's
  | _ => exact ⟨_, rfl, h.cueCommand _⟩

/-- The part's own event joins the queue, or the Stamp Counter counts a microsecond (R37). -/
theorem idle (h : s.Tuned) : s.idle.Tuned := by
  unfold State.idle
  split <;> exact h.congr rfl rfl rfl

theorem step (h : s.Tuned) (answer : step s = .next t) : t.Tuned := by
  unfold Machine.step at answer
  split at answer
  · cases answer
    exact h.idle
  · next c rest _ =>
    obtain ⟨u, next, tuned⟩ := State.Tuned.exec (s := { s with pending := rest }) { h with } c
    rw [next] at answer
    cases answer
    exact tuned

end State.Tuned

end Sys2Proof.Machine

open Sys2Proof.Machine

/-- Settles O57: the settings and the tracker are kept in range by the operations of every block, so by every command
and by the part's own events. -/
theorem stepKeepsSettings : Obligations.StepKeepsSettings := by
  unfold Obligations.StepKeepsSettings
  intro s t settings tracker answer
  exact (State.tuned_iff t).1 (((State.tuned_iff s).2 ⟨settings, tracker⟩).step answer)

end

section
/-! SUPPORT. Byte layouts (R202): fields laid one after another with zeros between them, what such bytes read as, and
how the chunks that the model writes are put into this form. -/

namespace Sys2Proof.Machine

/-! ### Little-endian numbers -/

@[simp] theorem leBytes_length (n : Nat) : ∀ x, (leBytes n x).length = n := by
  induction n with
  | zero => exact fun _ => rfl
  | succ n ih => exact fun x => congrArg (· + 1) (ih (x / 256))

@[simp] theorem leInt_length (n : Nat) (x : Int) : (leInt n x).length = n := leBytes_length n _

theorem natOf_leBytes (n : Nat) : ∀ x, natOf (leBytes n x) = x % 256 ^ n := by
  induction n with
  | zero => exact fun x => (Nat.mod_one x).symm
  | succ n ih =>
    intro x
    rw [leBytes, natOf, ih, BitVec.toNat_ofNat, Nat.pow_succ' (n := n)]
    exact (Nat.mod_mul ..).symm

/-- A field reads as its value, modulo its width. -/
theorem natOf_leInt (n : Nat) (x : Int) : (natOf (leInt n x) : Int) = x % 2 ^ (8 * n) := by
  have fits : (BitVec.ofInt (8 * n) x).toNat < 256 ^ n := by
    have lt := (BitVec.ofInt (8 * n) x).isLt
    rwa [Nat.pow_mul] at lt
  rw [leInt, natOf_leBytes, Nat.mod_eq_of_lt fits, BitVec.toNat_ofInt]
  have pos : (0 : Int) < (2 ^ (8 * n) : Nat) := by exact_mod_cast Nat.two_pow_pos _
  rw [Int.toNat_of_nonneg (Int.emod_nonneg _ pos.ne')]
  push_cast
  rfl

theorem leBytes_mod (n : Nat) : ∀ x, leBytes n (x % 256 ^ n) = leBytes n x := by
  induction n with
  | zero => exact fun _ => rfl
  | succ n ih =>
    intro x
    have low : BitVec.ofNat 8 (x % 256 ^ (n + 1)) = BitVec.ofNat 8 x := by
      apply BitVec.eq_of_toNat_eq
      rw [BitVec.toNat_ofNat, BitVec.toNat_ofNat, Nat.pow_succ, Nat.mul_comm, Nat.mod_mul_right_mod]
    rw [leBytes, leBytes, low, ← ih (x / 256), Nat.pow_succ, Nat.mul_comm, Nat.mod_mul_right_div_self]

/-- A number that is not negative is written alike as signed and as unsigned. -/
@[simp] theorem leInt_natCast (n x : Nat) : leInt n (x : Int) = leBytes n x := by
  rw [← leBytes_mod n x, leInt, BitVec.toNat_ofInt]
  congr 1
  rw [Nat.pow_mul]
  exact Int.toNat_natCast (x % 256 ^ n)

@[simp] theorem leInt_zero (n : Nat) : leInt n 0 = leBytes n 0 := leInt_natCast n 0

@[simp] theorem leInt_one (n : Nat) : leInt n 1 = leBytes n 1 := leInt_natCast n 1

@[simp] theorem leInt_ofNat (n x : Nat) [x.AtLeastTwo] :
    leInt n (no_index (OfNat.ofNat x)) = leBytes n (OfNat.ofNat x) := leInt_natCast n x

@[simp] theorem leBytes_zero (n : Nat) : leBytes n 0 = List.replicate n 0#8 := by
  induction n with
  | zero => rfl
  | succ n ih => rw [List.replicate_succ, ← ih]; rfl

/-! ### Reading a part of the bytes -/

theorem fieldAt_append_left {a : List Byte} {i w : Nat} (inside : i + w ≤ a.length) (b : List Byte) :
    fieldAt (a ++ b) i w = fieldAt a i w := by
  unfold fieldAt
  rw [List.drop_append_of_le_length (by omega), List.take_append_of_le_length (by rw [List.length_drop]; omega)]

theorem fieldAt_append_right {a : List Byte} {i : Nat} (past : a.length ≤ i) (b : List Byte) (w : Nat) :
    fieldAt (a ++ b) i w = fieldAt b (i - a.length) w := by
  unfold fieldAt
  rw [List.drop_append, List.drop_eq_nil_of_le past, List.nil_append]

theorem byteAt_append_left {a : List Byte} {i : Nat} (inside : i < a.length) (b : List Byte) :
    byteAt (a ++ b) i = byteAt a i := List.getD_append _ _ _ _ inside

theorem byteAt_append_right {a : List Byte} {i : Nat} (past : a.length ≤ i) (b : List Byte) :
    byteAt (a ++ b) i = byteAt b (i - a.length) := List.getD_append_right _ _ _ _ past

theorem byteAt_zeros (n i : Nat) : byteAt (leBytes n 0) i = 0#8 := by
  rw [leBytes_zero, byteAt, List.getD_eq_getElem?_getD, List.getElem?_replicate]
  split <;> rfl

/-! ### Fields laid one after another -/

/-- The fields, in rising order of their offsets, from position `o` on up to a size, with zeros in every gap. -/
def bytesFrom (o size : Nat) : List LayoutField → List Byte
  | [] => leBytes (size - o) 0
  | f :: fs => leBytes (f.offset - o) 0 ++ (leInt f.width f.value ++ bytesFrom (f.offset + f.width) size fs)

/-- The fields stand in rising order from position `o` on, none over another, and end within a size. -/
def risingFrom (o size : Nat) : List LayoutField → Bool
  | [] => decide (o ≤ size)
  | f :: fs => decide (o ≤ f.offset) && risingFrom (f.offset + f.width) size fs

theorem risingFrom_cons {o size : Nat} {f : LayoutField} {fs : List LayoutField} :
    risingFrom o size (f :: fs) = true ↔ o ≤ f.offset ∧ risingFrom (f.offset + f.width) size fs = true := by
  rw [risingFrom, Bool.and_eq_true, decide_eq_true_eq]

theorem risingFrom_offset : ∀ {fs : List LayoutField} {o size : Nat}, risingFrom o size fs = true →
    o ≤ size ∧ ∀ f ∈ fs, o ≤ f.offset := by
  intro fs
  induction fs with
  | nil => exact fun rising => ⟨of_decide_eq_true rising, nofun⟩
  | cons f fs ih =>
    intro o size rising
    obtain ⟨first, rest⟩ := risingFrom_cons.1 rising
    obtain ⟨fits, above⟩ := ih rest
    refine ⟨by omega, fun g among => ?_⟩
    rcases List.mem_cons.1 among with rfl | later
    · exact first
    · have := above g later; omega

theorem bytesFrom_length : ∀ {fs : List LayoutField} {o size : Nat}, risingFrom o size fs = true →
    (bytesFrom o size fs).length = size - o := by
  intro fs
  induction fs with
  | nil => exact fun _ => leBytes_length _ _
  | cons f fs ih =>
    intro o size rising
    obtain ⟨first, rest⟩ := risingFrom_cons.1 rising
    have fits := (risingFrom_offset rest).1
    rw [bytesFrom, List.length_append, List.length_append, leBytes_length, leInt_length, ih rest]
    omega

theorem bytesFrom_reads : ∀ {fs : List LayoutField} {o size : Nat}, risingFrom o size fs = true →
    ∀ f ∈ fs, (fieldAt (bytesFrom o size fs) (f.offset - o) f.width : Int) = f.value % 2 ^ (8 * f.width) := by
  intro fs
  induction fs with
  | nil => exact fun _ => nofun
  | cons f fs ih =>
    intro o size rising g among
    obtain ⟨first, rest⟩ := risingFrom_cons.1 rising
    rw [bytesFrom]
    rcases List.mem_cons.1 among with rfl | later
    · rw [fieldAt_append_right (by simp), leBytes_length, Nat.sub_self, fieldAt_append_left (by simp), ← natOf_leInt]
      unfold fieldAt
      rw [List.drop_zero, List.take_of_length_le (by simp)]
    · have above := (risingFrom_offset rest).2 g later
      rw [fieldAt_append_right (by simp; omega), fieldAt_append_right (by simp; omega), leBytes_length, leInt_length,
        ← ih rest g later]
      congr 2
      omega

theorem bytesFrom_zeros : ∀ {fs : List LayoutField} {o size : Nat}, risingFrom o size fs = true →
    ∀ i, o ≤ i → (∀ f ∈ fs, i < f.offset ∨ f.offset + f.width ≤ i) →
      byteAt (bytesFrom o size fs) (i - o) = 0#8 := by
  intro fs
  induction fs with
  | nil => exact fun _ i _ _ => byteAt_zeros _ _
  | cons f fs ih =>
    intro o size rising i from_ outside
    obtain ⟨first, rest⟩ := risingFrom_cons.1 rising
    rw [bytesFrom]
    rcases outside f (List.mem_cons_self ..) with before | past
    · rw [byteAt_append_left (by simp; omega), byteAt_zeros]
    · rw [byteAt_append_right (by simp; omega), byteAt_append_right (by simp; omega), leBytes_length, leInt_length,
        ← ih rest i past fun g later => outside g (List.mem_cons_of_mem _ later)]
      congr 1
      omega

/-- Bytes with the fields one after another and zeros between them are laid out as the fields say. -/
theorem Laid.of_eq {size : Nat} {bytes : List Byte} {fields : List LayoutField}
    (rising : risingFrom 0 size fields = true) (eq : bytes = bytesFrom 0 size fields) : Laid size bytes fields where
  length := by rw [eq, bytesFrom_length rising, Nat.sub_zero]
  reads f among := by rw [eq]; exact bytesFrom_reads rising f among
  zeros i outside := by rw [eq]; exact bytesFrom_zeros rising i (Nat.zero_le i) outside

/-! ### The sizes of a record and of the status block -/

theorem RecordImage.bytes_length (i : RecordImage) (serial : BitVec 32) : (i.bytes serial).length = 128 := by
  unfold RecordImage.bytes
  simp only [List.length_append, leBytes_length, leInt_length]

theorem State.statusBytes_length (s : State) (serial : BitVec 32) (final : Bool) :
    (s.statusBytes serial final).length = 256 := by
  unfold State.statusBytes State.statusHead State.statusMiddle State.statusCounters Receiver.statusBytes
  simp

end Sys2Proof.Machine
end

section
/-! SUPPORT. The Result Writer: the ring and its room (R126, R127), the head judged (R129), a record placed, and the
accesses taken in their turn (R195). -/

namespace Sys2Proof.Machine

section
variable {s : State}

/-! ### The head judged (R129) -/

theorem State.headRoom_iff (s : State) : s.headRoom = true ↔
    (s.writer.nextSerial - s.writer.consumed).toNat ≤ s.regs.bases.ringEntries := decide_eq_true_iff

theorem State.judgeHead_empty (empty : s.writer.held = []) :
    s.judgeHead = { s with writer := { s.writer with state := .idle } } := by
  unfold State.judgeHead
  rw [empty]
  rfl

theorem State.issueConsumed_free (free : s.writer.consumedRead = none) :
    s.issueConsumed = { s with writer := { s.writer with
      presented := s.writer.presented ++ [.consumedRead]
      consumedRead := some { address := s.regs.bases.consumedAddress, issued := s.pace.stamp } } } := by
  unfold State.issueConsumed State.onWriter
  dsimp only
  rw [if_neg (by rw [free]; decide)]
  rfl

/-- A consumed read in flight is not issued again (R128). -/
theorem State.issueConsumed_busy (busy : s.writer.consumedRead ≠ none) : s.issueConsumed = s := by
  unfold State.issueConsumed State.onWriter
  dsimp only
  rw [if_pos (Option.isSome_iff_ne_none.2 busy)]

section
variable {r : ResultRecord} {rest : List ResultRecord} (held : s.writer.held = r :: rest)
include held

theorem State.judgeHead_room (room : (s.writer.nextSerial - s.writer.consumed).toNat ≤ s.regs.bases.ringEntries) :
    s.judgeHead = { s with writer := { s.writer with
      state := .writing, presented := s.writer.presented ++ [.recordWrite]
      recordWrite := some (recordWriteOf s.regs.bases s.writer.nextSerial r) } } := by
  unfold State.judgeHead
  rw [held]
  exact if_pos (s.headRoom_iff.2 room)

theorem State.judgeHead_full (full : s.regs.bases.ringEntries < (s.writer.nextSerial - s.writer.consumed).toNat) :
    s.judgeHead = s.issueConsumed.onWriter fun w => { w with state := .checking } := by
  unfold State.judgeHead
  rw [held]
  exact if_neg (mt s.headRoom_iff.1 (Nat.not_le.2 full))

/-- A head without room has the consumed word read (R128). -/
theorem State.judgeHead_reads (full : s.regs.bases.ringEntries < (s.writer.nextSerial - s.writer.consumed).toNat)
    (free : s.writer.consumedRead = none) : s.judgeHead = { s with writer := { s.writer with
      state := .checking, presented := s.writer.presented ++ [.consumedRead]
      consumedRead := some { address := s.regs.bases.consumedAddress, issued := s.pace.stamp } } } := by
  rw [State.judgeHead_full held full, State.issueConsumed_free free]
  rfl

theorem State.judgeHead_checks (full : s.regs.bases.ringEntries < (s.writer.nextSerial - s.writer.consumed).toNat)
    (busy : s.writer.consumedRead ≠ none) :
    s.judgeHead = { s with writer := { s.writer with state := .checking } } := by
  rw [State.judgeHead_full held full, State.issueConsumed_busy busy]
  rfl

end

/-- What the judgment of the head changes in the writer. -/
theorem State.judgeHead_writer (s : State) : ∃ state record read presented, s.judgeHead.writer = { s.writer with
    state := state, recordWrite := record, consumedRead := read, presented := presented } := by
  cases held : s.writer.held with
  | nil => exact ⟨_, _, _, _, by rw [State.judgeHead_empty held]⟩
  | cons r rest =>
    rcases Nat.lt_or_ge s.regs.bases.ringEntries (s.writer.nextSerial - s.writer.consumed).toNat with full | room
    · by_cases free : s.writer.consumedRead = none
      · exact ⟨_, _, _, _, by rw [State.judgeHead_reads held full free]⟩
      · exact ⟨_, _, _, _, by rw [State.judgeHead_checks held full free]⟩
    · exact ⟨_, _, _, _, by rw [State.judgeHead_room held room]⟩

/-- In IDLE the record placed joins the tail, and the head is judged (R124, R129). -/
theorem State.place_idle (r : ResultRecord) (idle : s.writer.state = .idle) :
    s.place r = ({ s with writer := { s.writer with held := s.writer.held ++ [r] } } : State).judgeHead := if_pos idle

/-- A cause sends one message at most (R198). -/
theorem State.setCause_carried (s : State) (c : Cause) :
    (s.setCause c).carried = s.carried ∨ (s.setCause c).carried = s.carried ++ [.msi] := by
  unfold State.setCause State.setIrq
  dsimp only
  split
  · exact .inr rfl
  · exact .inl rfl

/-! ### The accesses of the writer -/

/-- The writer takes an access in its turn exactly where no write was presented before it (R195). -/
theorem ResultWriter.inTurn_iff {w : ResultWriter} {a : Access} {before after : List Access}
    (order : w.presented = before ++ a :: after) (first : a ∉ before) :
    w.inTurn a = true ↔ Access.recordWrite ∉ before ∧ .statusWrite ∉ before ∧ .targetWrite ∉ before := by
  have earlier : w.presented.takeWhile (· != a) = before := by
    rw [order, List.takeWhile_append_of_pos fun b among => bne_iff_ne.2 (ne_of_mem_of_not_mem among first)]
    simp
  unfold ResultWriter.inTurn
  rw [earlier, List.all_eq_true]
  constructor
  · exact fun reads => ⟨fun among => Bool.noConfusion (reads _ among), fun among => Bool.noConfusion (reads _ among),
      fun among => Bool.noConfusion (reads _ among)⟩
  · rintro ⟨record, status, target⟩ b among
    cases b with
    | recordWrite => exact absurd among record
    | statusWrite => exact absurd among status
    | targetWrite => exact absurd among target
    | _ => rfl

section
variable {h : HostWrite}

theorem exec_recordWriteAccepted_early (write : s.writer.recordWrite = some h)
    (early : s.writer.inTurn .recordWrite = false) : exec .recordWriteAccepted s = .next s := by
  refine congrArg Host.Outcome.next ?_
  rw [write, early, Bool.and_false]
  rfl

/-- The record write carried, its place freed and RESULT set, before the next head is judged (R129). -/
def State.recordTaken (s : State) (h : HostWrite) : State :=
  ((s.carry (.write h)).onWriter ResultWriter.written).setCause .result

@[simp] theorem State.recordTaken_writer (s : State) (h : HostWrite) :
    (s.recordTaken h).writer = s.writer.written := by
  simp [State.recordTaken]

@[simp] theorem State.recordTaken_regs (s : State) (h : HostWrite) :
    (s.recordTaken h).regs = { s.regs with cause := s.regs.cause ||| 0x001#9 } := by
  simp [State.recordTaken, Cause.bit]

@[simp] theorem State.recordTaken_pace (s : State) (h : HostWrite) : (s.recordTaken h).pace = s.pace := by
  simp [State.recordTaken]

theorem State.recordTaken_carried (s : State) (h : HostWrite) :
    (s.recordTaken h).carried = s.carried ++ [.write h] ∨
    (s.recordTaken h).carried = s.carried ++ [.write h, .msi] := by
  rcases State.setCause_carried ((s.carry (.write h)).onWriter ResultWriter.written) .result with silent | message
  · exact .inl silent
  · exact .inr (message.trans (List.append_assoc ..))

/-- The records left, once the head's place is freed. -/
theorem State.recordTaken_held {r : ResultRecord} {rest : List ResultRecord} (held : s.writer.held = r :: rest)
    (h : HostWrite) : (s.recordTaken h).writer.held = rest := by
  rw [State.recordTaken_writer]
  exact congrArg List.tail held

theorem exec_recordWriteAccepted_taken (write : s.writer.recordWrite = some h) (master : s.regs.busMaster = true)
    (turn : s.writer.inTurn .recordWrite = true) :
    exec .recordWriteAccepted s = .next (s.recordTaken h).judgeHead := by
  refine congrArg Host.Outcome.next ?_
  rw [write, master, turn]
  rfl

theorem exec_statusWriteAccepted_early (write : s.writer.statusWrite = some h)
    (early : s.writer.inTurn .statusWrite = false) : exec .statusWriteAccepted s = .next s := by
  refine congrArg Host.Outcome.next ?_
  rw [write, early, Bool.and_false]
  rfl

theorem exec_statusWriteAccepted_taken (write : s.writer.statusWrite = some h) (master : s.regs.busMaster = true)
    (turn : s.writer.inTurn .statusWrite = true) : exec .statusWriteAccepted s = .next (s.statusAccepted h) := by
  refine congrArg Host.Outcome.next ?_
  rw [write, master, turn]
  rfl

end

section
variable {read : HostRead} {v : BitVec 32}

theorem exec_consumedReadReturn_early (inFlight : s.writer.consumedRead = some read)
    (early : s.writer.inTurn .consumedRead = false) : exec (.consumedReadReturn v) s = .next s := by
  refine congrArg Host.Outcome.next ?_
  rw [inFlight, early]
  rfl

/-- The consumed word known, before the head is judged again (R127). -/
def State.consumedKnown (s : State) (v : BitVec 32) : State :=
  s.onWriter fun w => { w.retire .consumedRead with consumedRead := none, consumed := nextConsumed v w.lastSerial }

theorem exec_consumedReadReturn_taken (inFlight : s.writer.consumedRead = some read)
    (turn : s.writer.inTurn .consumedRead = true) :
    exec (.consumedReadReturn v) s = .next (s.consumedKnown v).judgeAgain := by
  refine congrArg Host.Outcome.next ?_
  rw [inFlight, turn]
  rfl

end

section
variable {r : ResultRecord} {rest : List ResultRecord} (held : s.writer.held = r :: rest)
include held

theorem State.judgeAgain_room (room : (s.writer.nextSerial - s.writer.consumed).toNat ≤ s.regs.bases.ringEntries) :
    s.judgeAgain = s.issueRecord r := by
  unfold State.judgeAgain
  rw [held]
  exact if_pos (s.headRoom_iff.2 room)

theorem State.judgeAgain_full
    (full : ¬ (s.writer.nextSerial - s.writer.consumed).toNat ≤ s.regs.bases.ringEntries) :
    s.judgeAgain = s.lacksRoom := by
  unfold State.judgeAgain
  rw [held]
  exact if_neg (mt s.headRoom_iff.1 full)

end

end

/-! ### The bytes of the records and of the status block -/

/-- The presence flags are the bits of R201. -/
theorem DeliveryRecord.flags_eq (d : DeliveryRecord) : (d.flags : Int) =
    (if d.left.isSome then 1 else 0) + 2 * (if d.right.isSome then 1 else 0) +
    4 * (if (d.left.bind (·.countGap)).isSome then 1 else 0) +
    8 * (if (d.right.bind (·.countGap)).isSome then 1 else 0) + 16 * (if d.takeNumber.isSome then 1 else 0) +
    32 * (if d.kind.skew.isSome then 1 else 0) + 64 * (if d.measurement.isSome then 1 else 0) +
    128 * (if d.leftLens.isSome then 1 else 0) + 256 * (if d.rightLens.isSome then 1 else 0) +
    512 * (if d.rig.isSome then 1 else 0) := by
  simp [DeliveryRecord.flags, presence]

/-- Entry i of the mark history stands at bit i (11, The status block). -/
theorem historyByte_testBit (h : List Bool) : ∀ i, (historyByte h).testBit i = h.getD i false := by
  induction h with
  | nil => exact fun i => Nat.zero_testBit i
  | cons g rest ih =>
    intro i
    have bit : historyByte (g :: rest) = Nat.bit g (historyByte rest) := by
      rw [Nat.bit_val, historyByte, Nat.add_comm]
      cases g <;> rfl
    rw [bit]
    cases i with
    | zero => exact Nat.testBit_bit_zero ..
    | succ i => rw [Nat.testBit_bit_succ, ih, List.getD_cons_succ]

theorem Flaws.code_eq (f : Flaws) : (f.code : Int) =
    (if f.tailMissing then 1 else 0) + 2 * (if f.rowCount then 1 else 0) + 4 * (if f.frameCheck then 1 else 0) := by
  simp [Flaws.code, presence]

end Sys2Proof.Machine

open Sys2Proof Sys2Proof.Machine

/-- Settles O40: the head is judged as R129 says after a write is taken and in an IDLE writer, and the bytes of each
kind of record are its fields in the order of the layout, with zeros between them. -/
theorem recordWritten : Obligations.RecordWritten := by
  unfold Obligations.RecordWritten
  refine ⟨?_, ?_, ?_⟩
  · intro h r rest s w next write held master
    refine ⟨exec_recordWriteAccepted_early write, fun turn =>
      ⟨_, exec_recordWriteAccepted_taken write master turn, ?_⟩⟩
    have left := State.recordTaken_held held h
    obtain ⟨state, record, read, presented, judged⟩ := (s.recordTaken h).judgeHead_writer
    rw [State.recordTaken_writer] at judged
    refine ⟨?_, by simp, ?_, ?_, ?_, ?_, ?_, ?_, ?_, ?_, ?_, ?_, by simp [State.recordTaken]⟩
    · rw [State.judgeHead_carried]
      exact s.recordTaken_carried h
    · rw [State.judgeHead_held, left]
    -- the serials, the count, the reservation, the consumed word and the status write are not the judgment's
    iterate 6 rw [judged]; rfl
    · intro none
      rw [State.judgeHead_empty (left.trans none), State.recordTaken_writer]
      exact ⟨rfl, rfl, rfl, rfl⟩
    · intro r2 rest2 more room
      have fits : ((s.recordTaken h).writer.nextSerial - (s.recordTaken h).writer.consumed).toNat ≤
          (s.recordTaken h).regs.bases.ringEntries := by
        rw [State.recordTaken_writer, State.recordTaken_regs]
        exact room
      rw [State.judgeHead_room (left.trans more) fits, State.recordTaken_writer, State.recordTaken_regs]
      exact ⟨rfl, rfl, rfl, rfl, RecordImage.bytes_length _ _⟩
    · intro r2 rest2 more full
      have unroomed : (s.recordTaken h).regs.bases.ringEntries <
          ((s.recordTaken h).writer.nextSerial - (s.recordTaken h).writer.consumed).toNat := by
        rw [State.recordTaken_writer, State.recordTaken_regs]
        exact full
      have reads : (s.recordTaken h).writer.consumedRead = w.consumedRead := by rw [State.recordTaken_writer]; rfl
      cases inFlight : w.consumedRead with
      | none =>
        rw [State.judgeHead_reads (left.trans more) unroomed (reads.trans inFlight), State.recordTaken_writer,
          State.recordTaken_regs, State.recordTaken_pace]
        exact ⟨rfl, rfl, nofun, fun _ => ⟨rfl, rfl⟩⟩
      | some x =>
        rw [State.judgeHead_checks (left.trans more) unroomed (by rw [reads, inFlight]; nofun),
          State.recordTaken_writer]
        exact ⟨rfl, rfl, fun read same => ⟨inFlight.trans same, rfl⟩, nofun⟩
  · intro r s w joined
    refine ⟨State.place_of_not_idle r, fun head rest idle order => ⟨fun room => ?_, fun full => ⟨fun free => ?_,
      fun busy => ?_⟩⟩⟩
    · exact (State.place_idle r idle).trans (State.judgeHead_room order room)
    · exact (State.place_idle r idle).trans (State.judgeHead_reads order full free)
    · exact (State.place_idle r idle).trans (State.judgeHead_checks order full busy)
  · intro serial one flaws number head
    refine ⟨fun d => ?_, ?_, ?_, ?_, ?_, ?_, ?_, rfl⟩
    · intro l r isPair
      have flawed : ∀ x : Option EyeFields,
          (x.map fun y => flaws y.flaws).getD 0 = ((x.map (·.flaws.code)).getD 0 : Nat) := fun x => by
        cases x with
        | none => rfl
        | some y => exact (Flaws.code_eq y.flaws).symm
      refine .of_eq rfl ?_
      rw [flawed, flawed]
      unfold ResultRecord.bytes ResultRecord.image DeliveryRecord.image RecordImage.bytes
      dsimp only [head, one, isPair, number, l, r]
      rw [← leInt_natCast 2 d.flags, d.flags_eq]
      rcases d.kind with skew | ⟨eye, _ | _⟩ <;>
        simp [bytesFrom, orZero, Function.comp_def, EntryKind.code, EntryKind.skew]
    -- the other kinds carry few fields, each written as a number of its width
    all_goals
      intros
      refine .of_eq rfl ?_
      unfold ResultRecord.bytes ResultRecord.image RecordImage.bytes
      simp [head, bytesFrom, presence]

/-- Settles O41: a consumed word is known before the head is judged again, and the bytes of the status block are its
fields in the order of the layout, with zeros between them. -/
theorem writerRepliesTaken : Obligations.WriterRepliesTaken := by
  unfold Obligations.WriterRepliesTaken
  refine ⟨?_, fun h s write master =>
      ⟨exec_statusWriteAccepted_early write, exec_statusWriteAccepted_taken write master⟩,
    fun w a before after => ResultWriter.inTurn_iff, ?_, historyByte_testBit, rfl, rfl, rfl, rfl, rfl, rfl, rfl, ?_⟩
  · intro v read r rest s w consumed room known write inFlight held waits
    refine ⟨exec_consumedReadReturn_early inFlight, fun turn => ⟨fun fits => ?_, fun full waiting => ?_,
      fun full checking => ?_⟩⟩
    · rw [exec_consumedReadReturn_taken inFlight turn, State.judgeAgain_room (s := s.consumedKnown v) held fits]
      rfl
    · rw [exec_consumedReadReturn_taken inFlight turn, State.judgeAgain_full (s := s.consumedKnown v) held full,
        State.lacksRoom, if_neg]
      · rfl
      · exact ne_of_eq_of_ne waiting nofun
    · rw [exec_consumedReadReturn_taken inFlight turn, State.judgeAgain_full (s := s.consumedKnown v) held full,
        State.lacksRoom, if_pos]
      · rfl
      · exact checking
  · intro serial final s one receiver
    refine .of_eq rfl ?_
    unfold State.statusBytes State.statusHead State.statusMiddle State.statusCounters Receiver.statusBytes
    dsimp only [one, receiver]
    simp [bytesFrom, apply_ite (leInt 1), apply_ite (leBytes 1), orZero, State.now, FrameStore.freeSlots]
  · intro k n ended mark code
    exact ⟨rfl, rfl, rfl, rfl, by cases mark <;> rfl⟩

end

section
/-! SUPPORT. The start of a delivery (R114 to R116). -/

namespace Sys2Proof.Machine

section
variable {s : State}

theorem State.canDeliver_iff (s : State) : s.canDeliver = true ↔ s.delivery.copy = none ∧
    s.writer.held.length + s.writer.reserved < 8 ∧ s.regs.run = .running := by
  simp only [State.canDeliver, ResultWriter.canReserve, Bool.and_eq_true, Option.isNone_iff_eq_none, decide_eq_true_eq,
    beq_iff_eq, and_assoc]

/-- The oldest entry alone is delivered, where it is READY with disposition DELIVER (R66, R114). -/
theorem PairMatcher.oldestReady_of_ready {m : PairMatcher} {x : Entry} {rest : List Entry}
    (table : m.table = x :: rest) (ready : x.state = .ready) (deliver : x.disposition = .deliver) : m.oldestReady = some x := by
  unfold PairMatcher.oldestReady
  rw [table]
  exact if_pos ⟨ready, deliver⟩

theorem exec_deliveryStart_of_ready {x : Entry} {g : Target} {targets : List Target} (can : s.canDeliver = true)
    (oldest : s.matcher.oldestReady = some x) (list : s.delivery.targets = g :: targets) :
    exec .deliveryStart s = .next (s.startDelivery g x) := by
  refine congrArg Host.Outcome.next ((if_pos can).trans ?_)
  rw [oldest, list]

end

end Sys2Proof.Machine

open Sys2Proof Sys2Proof.Machine

/-- Settles O38: where R114 holds, the size of the head target decides between the copy and the TARGET SHORT record. -/
theorem deliveryStarts : Obligations.DeliveryStarts := by
  unfold Obligations.DeliveryStarts
  intro x rest g targets s f copy running idle room table ready deliver list
  have starts := exec_deliveryStart_of_ready ((State.canDeliver_iff s).2 ⟨idle, room, running⟩)
    (PairMatcher.oldestReady_of_ready table ready deliver) list
  refine ⟨fun fits => ?_, fun short => ?_⟩
  · have size : ¬ g.size.toNat < s.settings.format.targetBytes := Nat.not_lt.2 fits
    rw [starts, State.startDelivery, if_neg size]
    unfold State.beginCopy State.onWriter State.onDelivery State.onMatcher PairMatcher.deliverHead
    dsimp only
    rw [table, list]
    rfl
  · have size : g.size.toNat < s.settings.format.targetBytes := short
    rw [State.startDelivery, if_pos size] at starts
    refine ⟨_, starts, ?_, State.place_writer_congr _ rfl rfl rfl, State.place_held _ _, State.place_reserved _ _,
      State.place_nextSerial _ _, by simp [State.shortTarget]⟩
    rw [State.shortTarget, State.place_delivery, State.onDelivery_delivery, list]
    rfl

end

section
/-! SUPPORT. The end of DRAINING (R131, R193, R194): every command but DRAINING_END_REACHED and a reset leaves it
reached, with the writer as it was; and the values of IDLE. -/

namespace Sys2Proof.Machine

namespace AtEnd
variable {w : ResultWriter} {s t : State}

theorem ite {p : Prop} [Decidable p] (yes : AtEnd w s) (no : AtEnd w t) : AtEnd w (if p then s else t) := by
  split
  · exact yes
  · exact no

theorem onMatcher (h : AtEnd w s) {f : PairMatcher → PairMatcher}
    (state : (f s.matcher).state = s.matcher.state := by rfl) : AtEnd w (s.onMatcher f) :=
  h.congr rfl rfl rfl state rfl rfl rfl

/-! ### Link units and measurements -/

theorem unlessOff (h : AtEnd w s) (effect : AtEnd w t) (e f) : AtEnd w (s.unlessOff e f t) :=
  ite (h.onReceiver e f) effect

theorem rowAtPosition (h : AtEnd w s) (e mark body) : AtEnd w (s.rowAtPosition e mark body) := by
  unfold State.rowAtPosition State.takeRow
  (repeat' split)
  · exact h
  · exact h.onReceiver _ _
  · exact h.lockedRow _ _ _ _
  · exact h.lockedRow _ _ _ _
  all_goals exact h

theorem takeTail (h : AtEnd w s) (e tail) : AtEnd w (s.takeTail e tail) :=
  ite ((h.onReceiver _ _).completeIfFilling _ _) (h.onReceiver _ _)

theorem measurementDone (h : AtEnd w s) (m) : AtEnd w (s.measurementDone m) := by
  have found := h.onAlign fun a =>
    { a.take s.settings.track (m.finding s.settings.track.floor) with busy := none, looking := true }
  unfold State.measurementDone State.finishEntry State.removeIdle
  dsimp only
  (repeat' split)
  · exact found
  · exact found.onMatcher
  · exact (found.onMatcher.onStore _).dispose

/-! ### Commands that are not due -/

/-- No access fails or times out: none is in flight. -/
theorem not_failing (h : AtEnd w s) (a : Access) : s.canFail a = false ∧ s.timedOut a = false := by
  obtain ⟨-, -, -, header, fetch, consumed, record, status, copy⟩ := h.quiet
  cases a <;> simp [State.canFail, State.timedOut, State.readIssued, State.writeInFlight, header, fetch, consumed,
    record, status, copy]

/-- The reader is OFF, so no cue is executed. -/
theorem cueCommand (h : AtEnd w s) (n : CueName) : s.cueCommand n = s := by
  unfold State.cueCommand
  rw [h.off]

theorem onRegs (h : AtEnd w s) {f : RegisterWindow → RegisterWindow} (run : (f s.regs).run = s.regs.run := by rfl)
    (starting : (f s.regs).drainedStarting = s.regs.drainedStarting := by rfl)
    (header : (f s.regs).headerRead = s.regs.headerRead := by rfl) : AtEnd w (s.onRegs f) :=
  h.congr rfl rfl rfl rfl run starting header

/-- START is refused in DRAINING (R190). -/
theorem commandStart (h : AtEnd w s) : AtEnd w s.commandStart := by
  unfold State.commandStart
  rw [h.quiet.1]
  exact h.onRegs

/-- STOP is refused in DRAINING (R193). -/
theorem commandStop (h : AtEnd w s) : AtEnd w s.commandStop := by
  unfold State.commandStop
  rw [h.quiet.1]
  exact h.onRegs

/-- No write to the window but a RESET command puts the end off. -/
theorem writeRegister (h : AtEnd w s) (offset : Nat) (v : BitVec 32)
    (other : offset = 0x08 → v.setWidth 8 ≠ 0x0F#8) : AtEnd w (s.writeRegister offset v) := by
  unfold State.writeRegister
  split
  · unfold State.writeControl
    split
    · exact h.commandStart
    · exact h.commandStop
    · next reset => exact absurd (BitVec.eq_of_toNat_eq reset) (other rfl)
    · exact h
  · exact h.setIrq _ _
  · exact h.setIrq _ _
  · exact h.onRegs
  · exact h.onRegs
  · exact h

/-- Every command but DRAINING_END_REACHED and a reset leaves the end of DRAINING reached (log 39). -/
theorem exec (h : AtEnd w s) (c : Instr) (final : c ≠ .drainingEndReached) (reset : c ≠ .reset)
    (pins : ∀ pins, c ≠ .powerOnReset pins ∧ c ≠ .pcieLinkReset pins)
    (write : ∀ v, c = .registerWrite 0x08#5 .word v → v.setWidth 8 ≠ 0x0F#8) :
    ∃ t, exec c s = .next t ∧ AtEnd w t := by
  obtain ⟨run, starting, notReached, header, fetch, consumed, record, status, copy⟩ := h.quiet
  cases c with
  | powerOnReset x => exact absurd rfl (pins x).1
  | pcieLinkReset x => exact absurd rfl (pins x).2
  | reset => exact absurd rfl reset
  | drainingEndReached => exact absurd rfl final
  | start => exact ⟨_, rfl, h.commandStart⟩
  | stop => exact ⟨_, rfl, h.commandStop⟩
  | causeWrite v => exact ⟨_, rfl, h.setIrq _ _⟩
  | enableWrite v => exact ⟨_, rfl, h.setIrq _ _⟩
  | registerWrite offset width v =>
    cases width with
    | word =>
      exact ⟨_, rfl, h.writeRegister _ v fun control =>
        write v (by rw [BitVec.eq_of_toNat_eq (x := offset) (y := 0x08#5) control])⟩
    | byte => exact ⟨_, rfl, h⟩
    | half => exact ⟨_, rfl, h⟩
  | headerReadReturn x => exact ⟨s, by simp only [Machine.exec, execHeaderReadReturn, header], h⟩
  | busError a => exact ⟨s, by simp [Machine.exec, execBusError, h.not_failing a], h⟩
  | readTimeout a => exact ⟨s, by simp [Machine.exec, execReadTimeout, h.not_failing a], h⟩
  | referencePulse order => exact ⟨_, rfl, ite (h.takePulse order) h⟩
  | lossDeadlineExpiry order => exact ⟨_, rfl, ite (h.enterHoldover _ order) h⟩
  | tickTimerExpiry order =>
    refine ⟨_, rfl, ?_⟩
    split
    · exact h
    · exact h.timerTick _ order
  | holdoverLimitReached order =>
    refine ⟨_, rfl, ?_⟩
    split
    · exact h
    · exact ite (h.timerTick _ order) h
  | silenceExpiry e => exact ⟨_, rfl, h.takeOwedSilence e⟩
  | huntMarkFound e position mark => exact ⟨_, rfl, h.unlessOff (ite (h.onReceiver e _) h) e _⟩
  | verifyMark e position mark => exact ⟨_, rfl, h.unlessOff (ite (h.onReceiver e _) h) e _⟩
  | rowPosition e mark body => exact ⟨_, rfl, h.unlessOff (h.rowAtPosition e mark body) e _⟩
  | frameHead e head => exact ⟨_, rfl, h.unlessOff (ite (h.takeHead e head) h) e _⟩
  | frameTail e tail => exact ⟨_, rfl, h.unlessOff (ite (h.takeTail e tail) h) e _⟩
  | fillUnit e fill => exact ⟨_, rfl, h.unlessOff (ite (h.onReceiver e _) h) e _⟩
  | partnerWaitExpiry => exact ⟨s, congrArg Host.Outcome.next (if_pos h.stopped), h⟩
  | takeCloseCompletion => exact ⟨s, congrArg Host.Outcome.next (if_neg fun closes => closes.1 h.stopped), h⟩
  | sampleMessage port c framing => exact ⟨_, rfl, ite (ite (h.onPort port _) h) h⟩
  | sampleCharacter port c framing => exact ⟨_, rfl, ite (h.onPort port _) h⟩
  | messageDeadlineExpiry port => exact ⟨_, rfl, ite (h.onPort port _) h⟩
  | measurementBegin =>
    refine ⟨_, rfl, ite ?_ h⟩
    split
    · exact h
    · exact h.onAlign _
  | measurementDone =>
    refine ⟨_, rfl, ?_⟩
    split
    · exact h
    · exact h.measurementDone _
  | deliveryStart =>
    refine ⟨s, congrArg Host.Outcome.next (if_neg ?_), h⟩
    simp [State.canDeliver, run]
  | copyCompletion writes => exact ⟨s, by simp only [Machine.exec, execCopyCompletion, copy], h⟩
  | recordWriteAccepted => exact ⟨s, by simp only [Machine.exec, execRecordWriteAccepted, record], h⟩
  | consumedReadReturn v => exact ⟨s, by simp [Machine.exec, execConsumedReadReturn, consumed], h⟩
  | statusWriteAccepted => exact ⟨s, by simp only [Machine.exec, execStatusWriteAccepted, status], h⟩
  | endOfDraining =>
    exact ⟨s, by simp [Machine.exec, execEndOfDraining, State.drainComplete, notReached, starting], h⟩
  | cueFetchReturn word => exact ⟨s, by simp only [Machine.exec, execCueFetchReturn, fetch], h⟩
  | faultRecordPlaced => exact ⟨s, by simp only [Machine.exec, execFaultRecordPlaced, h.off], h⟩
  | holdRelease => exact ⟨s, by simp only [Machine.exec, execHoldRelease, h.off], h⟩
  | waitEnd => exact ⟨s, by simp only [Machine.exec, execWaitEnd, h.off], h⟩
  | configurationAccess msi busMaster => exact ⟨_, rfl, h.onRegs⟩
  -- every other command is a cue's
  | _ => exact ⟨s, congrArg Host.Outcome.next (h.cueCommand _), h⟩

end AtEnd

/-! ### DRAINING_END_REACHED and END_OF_DRAINING -/

section
variable {s : State}

/-- What the entry to IDLE keeps (R194). -/
theorem State.enterIdle_keeps (s : State) : s.enterIdle.pace = s.pace ∧ s.enterIdle.settings = s.settings ∧
    s.enterIdle.straps = s.straps ∧ s.enterIdle.pending = s.pending ∧ s.enterIdle.carried = s.carried := by
  simp [State.enterIdle, State.idleBlocks, State.flush]

/-- The end of DRAINING, as R131 and R193 say. -/
theorem State.drained_of (run : s.regs.run = .draining) (running : s.regs.drainedStarting = false)
    (final : s.writer.final = .notReached) (quiet : s.quiet = true)
    (ended : s.writer.held = [] ∨ s.writer.state = .waiting) : s.drained = true := by
  simpa [State.drained, run, running, final, quiet] using ended

theorem exec_endOfDraining_complete (run : s.regs.run = .draining) (pending : s.writer.final ≠ .issued)
    (complete : s.drainComplete = true) : exec .endOfDraining s = .next s.enterIdle := by
  refine congrArg Host.Outcome.next ((if_pos run).trans ?_)
  dsimp only
  rw [if_neg pending, if_pos complete]

/-- The final status write in flight is accepted in the act that enters IDLE (log 31). -/
theorem exec_endOfDraining_accepts {h : HostWrite} (run : s.regs.run = .draining) (header : s.regs.headerRead = none)
    (issued : s.writer.final = .issued) (write : s.writer.statusWrite = some h) (master : s.regs.busMaster = true)
    (turn : s.writer.inTurn .statusWrite = true) : exec .endOfDraining s = .next (s.statusAccepted h).enterIdle := by
  have accepts : s.acceptFinal = s.statusAccepted h := by
    unfold State.acceptFinal
    rw [write, master, turn]
    rfl
  have accepted : (s.statusAccepted h).writer.final = .accepted := if_pos issued
  have complete : (s.statusAccepted h).drainComplete = true := by
    have same : (s.statusAccepted h).regs = s.regs := rfl
    simp [State.drainComplete, accepted, same, header]
  refine congrArg Host.Outcome.next ((if_pos run).trans ?_)
  dsimp only
  rw [if_pos issued, accepts, if_pos complete]

end

end Sys2Proof.Machine

open Sys2Proof Sys2Proof.Machine

/-- Settles O13: the entry to IDLE sets every block to the values written out, and no command but those named moves
anything that the end of DRAINING depends on. -/
theorem drainingEnds : Obligations.DrainingEnds := by
  unfold Obligations.DrainingEnds
  intro idles
  have enters : ∀ s : State, idles s s.enterIdle ∧ s.enterIdle.carried = s.carried := fun s => by
    obtain ⟨pace, settings, straps, pending, carried⟩ := s.enterIdle_keeps
    exact ⟨⟨rfl, rfl, rfl, rfl, rfl, rfl, rfl, rfl, rfl, rfl, rfl, rfl, pace, settings, straps, pending⟩, carried⟩
  refine ⟨?_, ?_, ?_, ?_⟩
  · intro s run running final header fetch consumed record status copy ended discarded serial
    have quiet : s.quiet = true := by simp [State.quiet, header, fetch, consumed, record, status, copy]
    exact ⟨State.statusBytes_length _ _ _,
      congrArg Host.Outcome.next (if_pos (State.drained_of run running final quiet ended))⟩
  · intro s run header ended
    have pending : s.writer.final ≠ .issued := by rcases ended with final | ⟨final, -⟩ <;> rw [final] <;> nofun
    have complete : s.drainComplete = true := by
      rcases ended with final | ⟨-, starting⟩
      · simp [State.drainComplete, header, final]
      · simp [State.drainComplete, header, starting]
    exact ⟨_, exec_endOfDraining_complete run pending complete, enters s⟩
  · intro h s run header issued write master turn
    exact ⟨_, exec_endOfDraining_accepts run header issued write master turn, enters (s.statusAccepted h)⟩
  · intro c s drained stopped off final reset pins write
    obtain ⟨t, next, kept⟩ := AtEnd.exec ⟨drained, stopped, off, rfl⟩ c final reset pins write
    exact ⟨t, next, kept.writer, kept.drained, kept.stopped, kept.off⟩

end

section
/-! SUPPORT. What waits in the reader: a fault record, a held cue and the end of a wait (R149, R151, R157), and the cue
commands that do not execute (R148, log 9). -/

namespace Sys2Proof.Machine

section
variable {s : State}

/-! ### A held cue (R149) -/

theorem exec_holdRelease_of_held {reason : HoldReason} (held : s.reader.state = .held reason) :
    exec .holdRelease s = .next s.judgeHeld := by
  refine congrArg Host.Outcome.next ?_
  rw [held]

/-- The state with its reader RUNNING. -/
def State.runs (s : State) : State := { s with reader := { s.reader with state := .running } }

/-- The checks of R142 do not look at the reader's state. -/
theorem State.runs_verdict (s : State) : s.runs.verdict = s.verdict := rfl

/-- A record placed does not look at the reader. -/
theorem State.runs_place (s : State) (r : ResultRecord) : s.runs.place r = (s.place r).runs := by
  have writer : (s.runs.place r).writer = (s.place r).writer := State.place_writer_congr r rfl rfl rfl
  rw [State.place_eq, writer, State.place_eq s]
  rfl

/-- The end of an execution leaves the reader RUNNING, whatever it was. -/
theorem State.runs_advancePast (s : State) (n : CueName) : s.runs.advancePast n = s.advancePast n := rfl

/-- A cue that may be held (R148) executes alike from HELD and from RUNNING, and ends in the advance past it. -/
theorem State.perform_of_mayHold {c : Cue}
    (may : c.name ∈ [CueName.target, .note, .recall, .openTake, .format, .orient, .probes]) :
    ∃ u : State, s.perform c = u.advancePast c.name ∧ s.runs.perform c = u.runs.advancePast c.name ∧
      u.reader.buffer = s.reader.buffer ∧ u.reader.cursor = s.reader.cursor ∧
      u.reader.executed = s.reader.executed := by
  cases c with
  | target g => exact ⟨s.onDelivery fun d => { d with targets := d.targets ++ [g] }, rfl, rfl, rfl, rfl, rfl⟩
  | format f => exact ⟨_, rfl, rfl, rfl, rfl, rfl⟩
  | orient o => exact ⟨_, rfl, rfl, rfl, rfl, rfl⟩
  | probes p => exact ⟨_, rfl, rfl, rfl, rfl, rfl⟩
  | note v => exact ⟨s.place (.note v), rfl, congrArg (State.advancePast · .note) (s.runs_place _), by simp⟩
  | openTake n =>
    have placed := (s.onMatcher fun m => m.openTake n s.now).runs_place (.takeOpened n s.now)
    exact ⟨_, rfl, congrArg (State.advancePast · .openTake) placed, by simp⟩
  | park | pad | jump | call | ret | eye | link | matching | track | samples | pace | closeTake | wait =>
    simp [Cue.name] at may
  -- the recall cue: `recall` is a keyword of Mathlib and cannot name a case
  | _ =>
    have placed := (s.onDelivery fun d => { d with targets := [] }).runs_place
      (.targetsRecalled s.delivery.targets.length (tagOf s.delivery.targets.head?) (tagOf s.delivery.targets.getLast?))
    exact ⟨_, rfl, congrArg (State.advancePast · .recall) placed, by simp⟩

/-- What the advance past a cue makes of the reader, the decode that follows it apart (R136, R143). -/
theorem State.advancePast_reader (s : State) (n : CueName) :
    (s.advancePast n).reader.cursor = s.reader.cursor + n.length s.reader.buffer ∧
    (s.advancePast n).reader.buffer = s.reader.buffer.drop (n.length s.reader.buffer) ∧
    (s.advancePast n).reader.executed = Counter.inc s.reader.executed := by
  obtain ⟨state, fetch, reader⟩ := (State.resume_decodesOn (s.onReader fun r => r.advance (n.length r.buffer))).reader
  rw [State.advancePast, reader]
  exact ⟨rfl, rfl, rfl⟩

/-- A held cue whose condition is met performs its effect (R149). -/
theorem exec_holdRelease_ready {reason : HoldReason} {c : Cue} (held : s.reader.state = .held reason)
    (ready : s.verdict = .ready c) : exec .holdRelease s = .next (s.perform c) := by
  rw [exec_holdRelease_of_held held, State.judgeHeld, ready]

theorem exec_holdRelease_hold {reason reason' : HoldReason} {c : Cue} (held : s.reader.state = .held reason)
    (hold : s.verdict = .hold c reason') : exec .holdRelease s = .next (s.setReader (.held reason')) := by
  rw [exec_holdRelease_of_held held, State.judgeHeld, hold]

/-! ### A waiting fault record, and the end of a wait (R151, R157) -/

theorem exec_faultRecordPlaced_of_room {code : FaultCode} (faulted : s.reader.state = .faulted code true)
    (room : s.writer.held.length + s.writer.reserved < 8) : exec .faultRecordPlaced s =
      .next ((s.setReader (.faulted code false)).place (.cueFault code s.reader.cursor)) := by
  refine congrArg Host.Outcome.next ?_
  rw [faulted]
  exact if_pos (decide_eq_true room)

theorem exec_waitEnd_of_ended {condition : WaitCondition} {count : Nat}
    (ended : s.reader.state = .waiting condition count true) :
    exec .waitEnd s = .next (s.setReader .running).resume := by
  refine congrArg Host.Outcome.next ?_
  rw [ended]

/-! ### Cue commands that do not execute (R148, log 9) -/

/-- In HELD a fetch is issued where R137 allows one. -/
theorem State.canFetch_of_held {reason : HoldReason} (held : s.reader.state = .held reason) : s.canFetch = true ↔
    s.reader.buffer.length ≤ 24 ∧ s.reader.fetch = none ∧ s.reader.fetchPointer < s.regs.bases.cueSize := by
  simp only [State.canFetch, held, ReaderState.fetches, Bool.and_eq_true, decide_eq_true_eq, Option.isNone_iff_eq_none,
    and_true, and_assoc]

/-- A command whose cue does not stand at the cursor of a RUNNING reader, every check but the hold passed, has no
effect (log 2, log 9). -/
theorem State.cueCommand_other {n : CueName} (other : s.reader.state ≠ .running ∨
    ∀ c : Cue, c.name = n → s.verdict ≠ .ready c ∧ ∀ reason, s.verdict ≠ .hold c reason) : s.cueCommand n = s := by
  unfold State.cueCommand
  split
  · next c running ready =>
    exact if_neg fun named => other.elim (· running) fun unfit => (unfit c named).1 ready
  · next c reason running hold =>
    exact if_neg fun named => other.elim (· running) fun unfit => (unfit c named).2 reason hold
  · rfl

end

end Sys2Proof.Machine

open Sys2Proof Sys2Proof.Machine

/-- Settles O44: a held cue performs its effect as from RUNNING, and a cue command judges the cue at the cursor. -/
theorem readerWaitsEnd : Obligations.ReaderWaitsEnd := by
  unfold Obligations.ReaderWaitsEnd
  intro s
  refine ⟨fun code faulted room => ?_, fun reason c held ready may => ?_,
    fun reason g held ready => exec_holdRelease_ready held ready,
    fun reason v held ready => ⟨_, exec_holdRelease_ready held ready, State.place_eq _ _, rfl, State.place_held _ _⟩,
    fun reason c reason' held hold => exec_holdRelease_hold held hold,
    fun condition count ended => exec_waitEnd_of_ended ended, fun c reason running hold => ?_, fun n other => ?_⟩
  · exact ⟨_, exec_faultRecordPlaced_of_room faulted room, State.place_reader _ _,
      State.place_writer_congr _ rfl rfl rfl, State.place_held _ _, State.place_reserved _ _,
      State.place_nextSerial _ _, by simp [State.setReader]⟩
  · intro runs length
    have stands : runs.standsReady c := ⟨rfl, s.runs_verdict.trans ready⟩
    have releases := exec_holdRelease_ready held ready
    obtain ⟨u, advances, alike, buffer, cursor, executed⟩ := State.perform_of_mayHold (s := s) may
    obtain ⟨past, dropped, counted⟩ := u.advancePast_reader c.name
    have same : runs.perform c = s.perform c := alike.trans ((u.runs_advancePast c.name).trans advances.symm)
    rw [buffer] at past dropped
    rw [cursor] at past
    rw [executed] at counted
    refine ⟨stands, ?_, _, releases, ?_⟩
    · rw [releases, exec_of_standsReady stands, same]
    · rw [advances]
      exact ⟨past, dropped, counted⟩
  · intro fetches held
    have holds : exec (cueInstr c.name) s = .next (s.holdCue reason) := by
      rw [exec_cueInstr, State.cueCommand_hold running hold]
    have allowed : (s.setReader (.held reason)).canFetch = true ↔ fetches := State.canFetch_of_held rfl
    unfold State.holdCue State.tryFetch at holds
    refine ⟨fun fetch => ?_, fun none => ?_⟩
    · rw [holds, if_pos (allowed.2 fetch)]
      rfl
    · rw [holds, if_neg (mt allowed.1 none)]
      rfl
  · rw [exec_cueInstr, State.cueCommand_other other]

end

section
/-! SUPPORT. The flow cues and WAIT (R144 to R146, R151, R153, R163 to R167). -/

namespace Sys2Proof.Machine

section
variable {s : State}

/-- RETURN executes with an address on the stack alone (R146, R161). -/
theorem State.stack_of_ret (ready : s.standsReady .ret) : s.reader.stack ≠ [] := by
  obtain ⟨fault, -⟩ := State.verdict_ready ready.2
  intro empty
  unfold State.stateFault at fault
  simp [empty] at fault

/-- RETURN pops the top address into the cursor (R146, R166). -/
theorem State.effectReturn_of_stack {a : Nat} {rest : List Nat} (stack : s.reader.stack = a :: rest) :
    s.effectReturn = (s.onReader fun r => { r with stack := rest }).jumpTo a := by
  unfold State.effectReturn
  rw [stack]

/-- PARK changes the reader's state, and the registers and the Bus Port's list by its cause (R153, R197). -/
theorem State.effectPark_onlyRegisters (s : State) :
    OnlyRegisters { s with reader := { s.reader with state := .parked } } s.effectPark := by
  unfold State.effectPark
  constructor
  · constructor <;> simp [State.setReader]
  · simp [State.setReader]

/-- A WAIT is met at once where both links are in FRAME_LOCK, or the take CLOSED, for the condition that asks for it
(R151). -/
theorem State.metAtOnce_iff (s : State) (c : WaitCondition) : s.metAtOnce c = true ↔
    (c = .lock ∧ s.left.sync = .frameLock ∧ s.right.sync = .frameLock) ∨
      (c = .takeClosed ∧ s.matcher.take = .closed) := by
  cases c <;> simp [State.metAtOnce]

end

end Sys2Proof.Machine

open Sys2Proof Sys2Proof.Machine

/-- Settles O45: each flow cue performs its effect, which is the one written out. -/
theorem flowCuesExecute : Obligations.FlowCuesExecute := by
  unfold Obligations.FlowCuesExecute
  refine fun s => ⟨fun ready => ?_, fun ready => exec_of_standsReady ready, fun target ready => exec_of_standsReady ready,
    fun target ready => exec_of_standsReady ready, fun a rest ready stack => ?_, State.stack_of_ret,
    fun choice ready => exec_of_standsReady ready⟩
  · obtain ⟨only, pace⟩ := s.effectPark_onlyRegisters
    exact ⟨s.effectPark, exec_of_standsReady ready, only, pace, by rw [State.effectPark, State.setCause_regs]; rfl⟩
  · have returns : exec .returnCue s = .next s.effectReturn := exec_of_standsReady ready
    rw [returns, State.effectReturn_of_stack stack]
    rfl

/-- Settles O51: by whether the condition is met at the execution, and each report by the wait it finds. -/
theorem waitsBegin : Obligations.WaitsBegin := by
  unfold Obligations.WaitsBegin
  refine fun s => ⟨fun c ready => ?_, fun n k waits => ?_, fun n k waits => ?_, fun k both waits => ?_,
    fun k waits => ?_⟩
  · intro met moved
    have executes : exec .waitCue s = .next (s.effectWait c) := exec_of_standsReady ready
    have judged : s.metAtOnce c = true ↔ met := s.metAtOnce_iff c
    refine ⟨fun now => ?_, fun later => ?_⟩
    · rw [executes, State.effectWait, judged.2 now]
      rfl
    · rw [executes, State.effectWait, Bool.eq_false_iff.2 (mt judged.1 later)]
      rfl
  · unfold State.readerTick State.onReader CueReader.reportTick
    rw [waits]
  · unfold CueReader.reportPair
    rw [waits]
  · unfold CueReader.reportLock
    rw [waits]
    rfl
  · unfold CueReader.reportClosed
    rw [waits]

end

section
/-! SUPPORT. The fetch and the decode at the cursor (R137, R138, R142, R143), and the return of a cue word (R154,
R158). -/

namespace Sys2Proof.Machine

section
variable {s : State}

/-! ### The fetch (R137) -/

/-- A fetch is issued where its four conditions hold (R137). -/
theorem State.canFetch_iff (s : State) : s.canFetch = true ↔ s.reader.buffer.length ≤ 24 ∧ s.reader.fetch = none ∧
    s.reader.fetchPointer < s.regs.bases.cueSize ∧ s.reader.state.fetches = true := by
  simp only [State.canFetch, Bool.and_eq_true, decide_eq_true_eq, Option.isNone_iff_eq_none, and_assoc]

theorem State.tryFetch_of_allowed (allowed : s.canFetch = true) :
    s.tryFetch = s.onReader fun r => r.issue s.regs.bases.cueBase s.now false := if_pos allowed

theorem State.tryFetch_of_not_allowed (barred : ¬ s.canFetch = true) : s.tryFetch = s := if_neg barred

/-- The checks of R142 do not look at the fetch in flight. -/
theorem State.tryFetch_verdict (s : State) : s.tryFetch.verdict = s.verdict := by
  obtain ⟨fetch, fetched⟩ := s.tryFetch_eq
  rw [fetched]
  rfl

/-- A fetch issued leaves all but the fetch in flight. -/
theorem State.tryFetch_keeps (s : State) : s.tryFetch.reader.state = s.reader.state ∧ s.tryFetch.regs = s.regs ∧
    s.tryFetch.writer = s.writer := by
  obtain ⟨fetch, fetched⟩ := s.tryFetch_eq
  rw [fetched]
  exact ⟨rfl, rfl, rfl⟩

/-! ### The decode at the cursor (R142, R143) -/

/-- What the decode makes of a state by what the checks find at the cursor (R142, log 9). -/
def State.decoded (s : State) : Verdict → State
  | .needByte | .ready _ => s.setReader .running
  | .stall => s.setReader .stalled
  | .hold _ r => s.setReader (.held r)
  | .fault code => s.faultReader code

/-- A reader RUNNING or STALLED decodes. -/
theorem State.settle_of_decoding (decoding : s.reader.state = .running ∨ s.reader.state = .stalled) :
    s.settle = s.decoded s.verdict := by
  unfold State.settle
  rcases decoding with running | stalled
  · rw [running]
    cases s.verdict <;> rfl
  · rw [stalled]
    cases s.verdict <;> rfl

/-- In every other state the reader decodes nothing. -/
theorem State.settle_of_other (running : s.reader.state ≠ .running) (stalled : s.reader.state ≠ .stalled) :
    s.settle = s := by
  unfold State.settle
  split
  · exact absurd ‹_› running
  · exact absurd ‹_› stalled
  · rfl

/-- A cue fault puts the reader in FAULTED, its mark set where no place can be reserved (R156, R157). -/
theorem State.faultReader_reader (s : State) (code : FaultCode) : (s.faultReader code).reader =
    { s.reader with state := .faulted code (decide (8 ≤ s.writer.held.length + s.writer.reserved)) } := by
  have mark : (!s.writer.canReserve) = decide (8 ≤ s.writer.held.length + s.writer.reserved) := by
    rw [ResultWriter.canReserve, ← decide_not]
    exact decide_eq_decide.2 Nat.not_lt
  unfold State.faultReader
  dsimp only
  split <;> simp [mark]

/-- A cue fault sets its cause (R156, R197). -/
theorem State.faultReader_regs (s : State) (code : FaultCode) :
    (s.faultReader code).regs = { s.regs with cause := s.regs.cause ||| 0x004#9 } := by
  unfold State.faultReader
  dsimp only
  split <;> simp [Cause.bit]

/-- The decode leaves the fetch in flight. -/
theorem State.settle_fetch (s : State) : s.settle.reader.fetch = s.reader.fetch := by
  by_cases decoding : s.reader.state = .running ∨ s.reader.state = .stalled
  · rw [State.settle_of_decoding decoding]
    cases s.verdict with
    | fault code => rw [State.decoded, State.faultReader_reader]
    | needByte | stall | hold | ready => rfl
  · rw [not_or] at decoding
    rw [State.settle_of_other decoding.1 decoding.2]

/-- After the fetch a reader RUNNING or STALLED decodes the cue that stood at its cursor. -/
theorem State.resume_of_decoding (decoding : s.reader.state = .running ∨ s.reader.state = .stalled) :
    s.resume = s.tryFetch.decoded s.verdict := by
  rw [State.resume, State.settle_of_decoding (by rwa [s.tryFetch_keeps.1]), State.tryFetch_verdict]

/-! ### A word returned (R138, R154, R158) -/

/-- A fetch in flight returns its word. -/
theorem exec_cueFetchReturn_of_fetch {f : Fetch} (inFlight : s.reader.fetch = some f) (word : BitVec 64) :
    exec (.cueFetchReturn word) s = .next (s.fetchReturned f word) := by
  refine congrArg Host.Outcome.next ?_
  rw [inFlight]

theorem State.fetchReturned_of_off (off : s.reader.state = .off) (f : Fetch) (word : BitVec 64) :
    s.fetchReturned f word = s.onReader fun r => { r with fetch := none } := if_pos off

theorem State.fetchReturned_of_stale {f : Fetch} (on : s.reader.state ≠ .off) (stale : f.sequence ≠ s.reader.sequence)
    (word : BitVec 64) : s.fetchReturned f word = (s.onReader fun r => { r with fetch := none }).tryFetch :=
  (if_neg on).trans (if_neg stale)

/-- The reader with a current word's bytes past the skip count placed, the fetch pointer 8 on (R138). -/
def State.wordPlaced (s : State) (word : BitVec 64) : State :=
  { s with reader := { s.reader with
      fetch := none, buffer := s.reader.buffer ++ (leBytes 8 word.toNat).drop s.reader.skip, skip := 0
      fetchPointer := s.reader.fetchPointer + 8 } }

theorem State.fetchReturned_of_current {f : Fetch} (on : s.reader.state ≠ .off)
    (current : f.sequence = s.reader.sequence) (word : BitVec 64) :
    s.fetchReturned f word = (s.wordPlaced word).afterWord f := (if_neg on).trans (if_pos current)

/-- Out of PARKED the fetch and the decode go on (R138). -/
theorem State.afterWord_of_not_parked (f : Fetch) (unparked : s.reader.state ≠ .parked) :
    s.afterWord f = s.resume := by
  unfold State.afterWord
  split
  · exact absurd ‹_› unparked
  · rfl

/-- A PARKED reader resumes where a re-look has found another byte than PARK, and stays otherwise (R154). -/
theorem State.afterWord_of_parked (f : Fetch) (parked : s.reader.state = .parked) : s.afterWord f =
    if f.reLook = true ∧ byteAt s.reader.buffer 0 ≠ 0#8 then (s.setReader .running).resume else s := by
  unfold State.afterWord
  rw [parked]
  exact if_congr (by rw [Bool.and_eq_true, bne_iff_ne]) rfl rfl

end

end Sys2Proof.Machine

open Sys2Proof Sys2Proof.Machine

/-- Settles O42: the fetch leaves what the checks look at, and the decode is the one that the verdict names. -/
theorem decodeGoesOn : Obligations.DecodeGoesOn := by
  unfold Obligations.DecodeGoesOn
  intro s
  obtain ⟨state, regs, writer⟩ := s.tryFetch_keeps
  have fetch : s.resume.reader.fetch = s.tryFetch.reader.fetch := s.tryFetch.settle_fetch
  refine ⟨s.resume_decodesOn, fun allowed => ?_, fun barred => ?_, fun decoding => ?_, fun running stalled => ?_⟩
  · rw [fetch, State.tryFetch_of_allowed (s.canFetch_iff.2 allowed)]
    rfl
  · rw [fetch, State.tryFetch_of_not_allowed (mt s.canFetch_iff.1 barred)]
  · rw [State.resume_of_decoding decoding]
    cases s.verdict with
    | fault code =>
      exact ⟨by rw [State.decoded, State.faultReader_reader, writer], by rw [State.decoded, State.faultReader_regs, regs]⟩
    | needByte | stall | hold | ready => rfl
  · rw [State.resume, State.settle_of_other (state ▸ running) (state ▸ stalled), state]

/-- Settles O43: by the reader's state and the sequence of the word. -/
theorem fetchReturns : Obligations.FetchReturns := by
  unfold Obligations.FetchReturns
  intro f word s inFlight r placed resumes
  rw [exec_cueFetchReturn_of_fetch inFlight]
  refine ⟨fun off => ?_, fun on stale => ?_, fun on current => ?_⟩
  · rw [State.fetchReturned_of_off off]
    rfl
  · rw [State.fetchReturned_of_stale on stale]
    rfl
  · rw [State.fetchReturned_of_current on current]
    refine ⟨fun unparked => ?_, fun parked resumed => ?_, fun parked stays => ?_⟩
    · exact congrArg Host.Outcome.next (State.afterWord_of_not_parked (s := s.wordPlaced word) f unparked)
    · exact congrArg Host.Outcome.next
        ((State.afterWord_of_parked (s := s.wordPlaced word) f parked).trans (if_pos resumed))
    · exact congrArg Host.Outcome.next
        ((State.afterWord_of_parked (s := s.wordPlaced word) f parked).trans (if_neg stays))

end

section
/-! SUPPORT. The cue encodings (11; R140, R161, R200): the field checks read back what the bytes of a cue were written
from, and what they read spells the bytes it was read from. -/

namespace Sys2Proof.Machine

/-! ### Numbers written and read -/

/-- A number that fits its field reads back. -/
theorem natOf_leBytes_of_lt {w x : Nat} (fits : x < 256 ^ w) : natOf (leBytes w x) = x := by
  rw [natOf_leBytes, Nat.mod_eq_of_lt fits]

/-- Bytes are those of the number they spell. -/
theorem leBytes_natOf (bs : List Byte) : leBytes bs.length (natOf bs) = bs := by
  induction bs with
  | nil => rfl
  | cons b bs ih =>
    have low := b.isLt
    have byte : BitVec.ofNat 8 (b.toNat + 256 * natOf bs) = b := BitVec.eq_of_toNat_eq (by
      rw [BitVec.toNat_ofNat]
      omega)
    have rest : (b.toNat + 256 * natOf bs) / 256 = natOf bs := by omega
    rw [List.length_cons, natOf, leBytes, byte, rest, ih]

theorem fieldAt_drop (bs : List Byte) (j i w : Nat) : fieldAt (bs.drop j) i w = fieldAt bs (j + i) w := by
  rw [fieldAt, fieldAt, List.drop_drop]

/-- A byte is the one its number names. -/
theorem eq_ofNat_of_toNat_eq {b : Byte} {k : Nat} (value : b.toNat = k) : b = BitVec.ofNat 8 k := by
  rw [← value, BitVec.ofNat_toNat, BitVec.setWidth_eq]

theorem padsZero_iff (bs : List Byte) (positions : List Nat) :
    padsZero bs positions = true ↔ ∀ i ∈ positions, byteAt bs i = 0#8 := by
  simp only [padsZero, List.all_eq_true, beq_iff_eq]

/-! ### Bytes as bytes and fields one after another -/

section
variable {bs : List Byte} {i w : Nat}

theorem drop_eq_byteAt_cons (inside : i < bs.length) : bs.drop i = byteAt bs i :: bs.drop (i + 1) := by
  rw [List.drop_eq_getElem_cons inside, byteAt, List.getD_eq_getElem _ _ inside]

theorem drop_eq_leBytes_append (inside : i + w ≤ bs.length) :
    bs.drop i = leBytes w (fieldAt bs i w) ++ bs.drop (i + w) := by
  have length : ((bs.drop i).take w).length = w := by
    rw [List.length_take, List.length_drop]
    omega
  have field : leBytes w (fieldAt bs i w) = (bs.drop i).take w :=
    (congrArg (leBytes · (fieldAt bs i w)) length.symm).trans (leBytes_natOf _)
  rw [field, ← List.drop_drop, List.take_append_drop]

/-- The last field of the bytes. -/
theorem drop_eq_leBytes (end_ : i + w = bs.length) : bs.drop i = leBytes w (fieldAt bs i w) := by
  rw [drop_eq_leBytes_append end_.le, List.drop_eq_nil_of_le end_.ge, List.append_nil]

theorem eq_two_bytes (length : bs.length = 2) : bs = [byteAt bs 0, byteAt bs 1] := by
  conv_lhs => rw [← bs.drop_zero, drop_eq_byteAt_cons (by omega), drop_eq_byteAt_cons (by omega),
    List.drop_eq_nil_of_le (by omega)]

/-- The first four bytes: the code byte, and three more. -/
theorem eq_header_append (long : 4 ≤ bs.length) :
    bs = [byteAt bs 0, byteAt bs 1, byteAt bs 2, byteAt bs 3] ++ bs.drop 4 := by
  conv_lhs => rw [← bs.drop_zero, drop_eq_byteAt_cons (by omega), drop_eq_byteAt_cons (by omega),
    drop_eq_byteAt_cons (by omega), drop_eq_byteAt_cons (by omega)]
  rfl

/-- Four bytes and a 32-bit field. -/
theorem eq_header_word (length : bs.length = 8) :
    bs = [byteAt bs 0, byteAt bs 1, byteAt bs 2, byteAt bs 3] ++ leBytes 4 (fieldAt bs 4 4) := by
  rw [← drop_eq_leBytes length.symm]
  exact eq_header_append (by omega)

/-- Four bytes and two 16-bit fields. -/
theorem eq_header_halves (length : bs.length = 8) : bs =
    [byteAt bs 0, byteAt bs 1, byteAt bs 2, byteAt bs 3] ++ leBytes 2 (fieldAt bs 4 2) ++ leBytes 2 (fieldAt bs 6 2) := by
  rw [List.append_assoc, ← drop_eq_leBytes (i := 6) length.symm, ← drop_eq_leBytes_append (by omega)]
  exact eq_header_append (by omega)

/-- Four bytes and two 32-bit fields. -/
theorem eq_header_words (length : bs.length = 12) : bs =
    [byteAt bs 0, byteAt bs 1, byteAt bs 2, byteAt bs 3] ++ leBytes 4 (fieldAt bs 4 4) ++ leBytes 4 (fieldAt bs 8 4) := by
  rw [List.append_assoc, ← drop_eq_leBytes (i := 8) length.symm, ← drop_eq_leBytes_append (by omega)]
  exact eq_header_append (by omega)

/-- The layout of TARGET. -/
theorem eq_target_layout (length : bs.length = 16) : bs = [byteAt bs 0, byteAt bs 1] ++ leBytes 2 (fieldAt bs 2 2) ++
    leBytes 4 (fieldAt bs 4 4) ++ leBytes 8 (fieldAt bs 8 8) := by
  rw [List.append_assoc, List.append_assoc, ← drop_eq_leBytes (i := 8) length.symm, ← drop_eq_leBytes_append (by omega),
    ← drop_eq_leBytes_append (by omega)]
  conv_lhs => rw [← bs.drop_zero, drop_eq_byteAt_cons (by omega), drop_eq_byteAt_cons (by omega)]
  rfl

end

/-! ### The rows of PROBES -/

/-- Rows written two bytes each read back. -/
theorem map_fieldAt_flatMap (rows : List Nat) (small : ∀ r ∈ rows, r < 65536) :
    ((List.range rows.length).map fun i => fieldAt (rows.flatMap (leBytes 2)) (2 * i) 2) = rows := by
  induction rows with
  | nil => rfl
  | cons r rows ih =>
    have first : fieldAt (leBytes 2 r ++ rows.flatMap (leBytes 2)) 0 2 = r := by
      rw [fieldAt_append_left (by simp)]
      exact natOf_leBytes_of_lt (w := 2) (small r (List.mem_cons_self ..))
    have later : ∀ i, fieldAt (leBytes 2 r ++ rows.flatMap (leBytes 2)) (2 * (i + 1)) 2 =
        fieldAt (rows.flatMap (leBytes 2)) (2 * i) 2 := fun i => fieldAt_append_right (by simp) _ _
    rw [List.length_cons, List.range_succ_eq_map, List.map_cons, List.map_map, List.flatMap_cons]
    refine congr (congrArg List.cons first) ?_
    conv_rhs => rw [← ih fun q among => small q (List.mem_cons_of_mem _ among)]
    exact List.map_congr_left fun i _ => later i

/-- Rows read two bytes each spell the bytes. -/
theorem flatMap_map_fieldAt (k : Nat) : ∀ bs : List Byte, bs.length = 2 * k →
    ((List.range k).map fun i => fieldAt bs (2 * i) 2).flatMap (leBytes 2) = bs := by
  induction k with
  | zero => exact fun bs length => (List.length_eq_zero_iff.1 length).symm
  | succ k ih =>
    intro bs length
    have later : ((List.range k).map fun i => fieldAt bs (2 * (i + 1)) 2).flatMap (leBytes 2) = bs.drop 2 := by
      conv_rhs => rw [← ih (bs.drop 2) (by rw [List.length_drop]; omega)]
      simp only [fieldAt_drop, Nat.mul_succ, Nat.add_comm 2]
    rw [List.range_succ_eq_map, List.map_cons, List.map_map, List.flatMap_cons]
    refine (congrArg _ later).trans ?_
    rw [← drop_eq_leBytes_append (i := 0) (by omega), List.drop_zero]

/-! ### The field checks read back a cue's bytes -/

theorem targetField_bytes {code : Byte} {t size : Nat} (inside : t < size) (small : size ≤ 1048576) (mk : Nat → Cue) :
    targetField ([code, 0#8, 0#8, 0#8] ++ leBytes 4 t) size mk = .good (mk t) := by
  have target : fieldAt ([code, 0#8, 0#8, 0#8] ++ leBytes 4 t) 4 4 = t :=
    natOf_leBytes_of_lt (w := 4) (inside.trans (by omega))
  have pads : padsZero ([code, 0#8, 0#8, 0#8] ++ leBytes 4 t) [1, 2, 3] = true := rfl
  unfold targetField
  rw [pads, target]
  exact if_neg (Nat.not_le.2 inside)

theorem valueField_bytes (code : Byte) (v : BitVec 32) (mk : BitVec 32 → Cue) :
    valueField ([code, 0#8, 0#8, 0#8] ++ leBytes 4 v.toNat) mk = .good (mk v) := by
  have value : fieldAt ([code, 0#8, 0#8, 0#8] ++ leBytes 4 v.toNat) 4 4 = v.toNat :=
    natOf_leBytes_of_lt (w := 4) v.isLt
  have pads : padsZero ([code, 0#8, 0#8, 0#8] ++ leBytes 4 v.toNat) [1, 2, 3] = true := rfl
  unfold valueField
  rw [pads, word32At, value, BitVec.ofNat_toNat, BitVec.setWidth_eq]
  rfl

/-- FORMAT's ranges but for the frame size (R169). -/
def FormatSetting.Sized (f : FormatSetting) : Prop :=
  256 ≤ f.width ∧ f.width ≤ 4096 ∧ f.width % 64 = 0 ∧ 128 ≤ f.height ∧ f.height ≤ 4096

/-- FORMAT's ranges with the frame size. -/
theorem FormatSetting.inRange_iff (f : FormatSetting) :
    f.inRange = true ↔ f.Sized ∧ f.width * f.height * f.depth.bits ≤ 8 * 16777216 := by
  simp only [FormatSetting.inRange, FormatSetting.Sized, Bool.and_eq_true, decide_eq_true_eq, beq_iff_eq, and_assoc]

theorem depthOf_byte (d : Depth) : depthOf (BitVec.ofNat 8 d.bits).toNat = some d := by cases d <;> rfl

/-- The fields of FORMAT read back, and the frame size alone is left to judge. -/
theorem formatFields_bytes {f : FormatSetting} (sized : f.Sized) : formatFields (Cue.format f).bytes =
    if 8 * 16777216 < f.width * f.height * f.depth.bits then .bad .formatTooLarge else .good (.format f) := by
  obtain ⟨wide, widest, aligned, high, highest⟩ := sized
  have width : fieldAt (Cue.format f).bytes 4 2 = f.width :=
    natOf_leBytes_of_lt (w := 2) (by omega)
  have height : fieldAt (Cue.format f).bytes 6 2 = f.height :=
    natOf_leBytes_of_lt (w := 2) (by omega)
  have depth : depthOf (byteAt (Cue.format f).bytes 1).toNat = some f.depth := depthOf_byte f.depth
  have pad : padsZero (Cue.format f).bytes [3] = true := rfl
  have packing : byteAt (Cue.format f).bytes 2 = packingByte f.packing := rfl
  unfold formatFields
  rw [depth, width, height, pad, packing]
  dsimp only
  rw [if_neg (by cases f.packing <;> decide), if_neg (by decide), if_neg (by omega), if_neg (by omega)]
  obtain ⟨d, p, w, h⟩ := f
  cases p <;> rfl

/-- The count byte of PROBES reads as the number of its rows (R140). -/
theorem byteAt_probes_count {p : ProbeSetting} (few : p.rows.length ≤ 8) :
    (byteAt (Cue.probes p).bytes 1).toNat = p.rows.length := Nat.mod_eq_of_lt (by omega)

theorem probesFields_bytes {p : ProbeSetting} {height : Nat} (small : height ≤ 4096) (range : p.inRange height = true) :
    probesFields (Cue.probes p).bytes height = .good (.probes p) := by
  obtain ⟨few, near, inside, distinct⟩ := (p.inRange_iff height).1 range
  have reach : (byteAt (Cue.probes p).bytes 2).toNat = p.range := Nat.mod_eq_of_lt (by omega)
  have pad : padsZero (Cue.probes p).bytes [3] = true := rfl
  have rows : probeRows (Cue.probes p).bytes = p.rows := by
    have field : ∀ i, fieldAt (Cue.probes p).bytes (4 + 2 * i) 2 = fieldAt (p.rows.flatMap (leBytes 2)) (2 * i) 2 :=
      fun i => (fieldAt_append_right (by simp) _ _).trans (by simp)
    have below : ∀ r ∈ p.rows, r < 65536 := fun r among =>
      (inside r among).trans (by omega)
    rw [probeRows, byteAt_probes_count few]
    simp only [field]
    exact map_fieldAt_flatMap p.rows below
  have all : (p.rows.all fun r => decide (r < height)) = true := by simpa using inside
  unfold probesFields
  rw [reach, pad, rows, all, if_neg (by omega), if_neg (by decide), if_neg (by decide), if_neg (not_not.2 distinct)]

theorem policyOf_byte (p : OrphanPolicy) : policyOf (policyByte p).toNat = some p := by cases p <;> rfl

theorem matchFields_bytes {m : MatchSetting} (range : m.inRange = true) :
    matchFields (Cue.matching m).bytes = .good (.matching m) := by
  simp only [MatchSetting.inRange, Bool.and_eq_true, decide_eq_true_eq] at range
  obtain ⟨⟨⟨⟨⟨soonest, latest⟩, narrowest⟩, widest⟩, least⟩, most⟩ := range
  have policy : policyOf (byteAt (Cue.matching m).bytes 1).toNat = some m.policy := policyOf_byte m.policy
  have wait : (byteAt (Cue.matching m).bytes 2).toNat = m.partnerWait := Nat.mod_eq_of_lt (by omega)
  have window : fieldAt (Cue.matching m).bytes 4 4 = m.window := natOf_leBytes_of_lt (w := 4) (by omega)
  have limit : fieldAt (Cue.matching m).bytes 8 4 = m.skewLimit := natOf_leBytes_of_lt (w := 4) (by omega)
  have pad : padsZero (Cue.matching m).bytes [3] = true := rfl
  unfold matchFields
  rw [policy, wait, window, limit, pad]
  dsimp only
  rw [if_neg (by omega), if_neg (by decide), if_neg (by omega), if_neg (by omega)]

theorem trackFields_bytes {t : TrackSetting} (range : t.inRange = true) :
    trackFields (Cue.track t).bytes = .good (.track t) := by
  simp only [TrackSetting.inRange, Bool.and_eq_true, decide_eq_true_eq] at range
  obtain ⟨⟨⟨⟨fewest, most⟩, lowest⟩, highest⟩, floors⟩ := range
  have mode : byteAt (Cue.track t).bytes 1 = modeByte t.mode := rfl
  have settle : (byteAt (Cue.track t).bytes 2).toNat = t.settleCount := Nat.mod_eq_of_lt (by omega)
  have offset : signedByte (byteAt (Cue.track t).bytes 3) = t.fixedOffset :=
    BitVec.toInt_ofInt_eq_self (by decide) (by omega) (by omega)
  have floor : fieldAt (Cue.track t).bytes 4 2 = t.floor := natOf_leBytes_of_lt (w := 2) (by omega)
  have fill : fieldAt (Cue.track t).bytes 6 2 = t.fill.toNat := natOf_leBytes_of_lt (w := 2) t.fill.isLt
  unfold trackFields
  rw [mode, settle, offset, floor, fill, BitVec.ofNat_toNat, BitVec.setWidth_eq,
    if_neg (by cases t.mode <;> decide), if_neg (by omega), if_neg (by omega)]
  obtain ⟨m, n, f, o, x⟩ := t
  cases m <;> rfl

theorem samplesFields_bytes {x : SampleSetting} (range : x.inRange = true) :
    samplesFields (Cue.samples x).bytes = .good (.samples x) := by
  simp only [SampleSetting.inRange, Bool.and_eq_true, decide_eq_true_eq] at range
  obtain ⟨⟨leads, youngest⟩, oldest⟩ := range
  have lead : fieldAt (Cue.samples x).bytes 4 4 = x.lead := natOf_leBytes_of_lt (w := 4) (by omega)
  have age : fieldAt (Cue.samples x).bytes 8 4 = x.maxAge := natOf_leBytes_of_lt (w := 4) (by omega)
  have pads : padsZero (Cue.samples x).bytes [1, 2, 3] = true := rfl
  unfold samplesFields
  rw [lead, age, pads, if_neg (by decide), if_neg (by omega), if_neg (by omega)]

theorem paceFields_bytes {p : PaceSetting} (range : p.inRange = true) :
    paceFields (Cue.pace p).bytes = .good (.pace p) := by
  simp only [PaceSetting.inRange, Bool.and_eq_true, decide_eq_true_eq] at range
  obtain ⟨⟨⟨shortest, longest⟩, least⟩, most⟩ := range
  have period : fieldAt (Cue.pace p).bytes 4 4 = p.freePeriod := natOf_leBytes_of_lt (w := 4) (by omega)
  have limit : fieldAt (Cue.pace p).bytes 8 4 = p.holdoverLimit := natOf_leBytes_of_lt (w := 4) (by omega)
  have pads : padsZero (Cue.pace p).bytes [1, 2, 3] = true := rfl
  unfold paceFields
  rw [period, limit, pads, if_neg (by decide), if_neg (by omega), if_neg (by omega)]

theorem targetFields_bytes {t : Target} (range : t.inRange = true) :
    targetFields (Cue.target t).bytes = .good (.target t) := by
  simp only [Target.inRange, Bool.and_eq_true, decide_eq_true_eq, beq_iff_eq, bne_iff_ne, ne_eq, BitVec.toNat_eq,
    BitVec.toNat_ofNat, Nat.zero_mod] at range
  obtain ⟨⟨placed, aligned⟩, ends⟩ := range
  have tag : fieldAt (Cue.target t).bytes 2 2 = t.tag.toNat := natOf_leBytes_of_lt (w := 2) t.tag.isLt
  have size : fieldAt (Cue.target t).bytes 4 4 = t.size.toNat := natOf_leBytes_of_lt (w := 4) t.size.isLt
  have address : fieldAt (Cue.target t).bytes 8 8 = t.address.toNat := natOf_leBytes_of_lt (w := 8) t.address.isLt
  have pad : padsZero (Cue.target t).bytes [1] = true := rfl
  unfold targetFields
  rw [word32At, tag, size, address, pad, if_neg (by decide), if_neg (by omega)]
  simp only [BitVec.ofNat_toNat, BitVec.setWidth_eq]

theorem waitFields_bytes {c : WaitCondition} (range : c.inRange = true) :
    waitFields (Cue.wait c).bytes = .good (.wait c) := by
  have bounds : ∀ n : Nat, (decide (1 ≤ n) && decide (n ≤ 65535)) = true → ¬ (n < 1 ∨ 65535 < n) := fun n inside => by
    simp only [Bool.and_eq_true, decide_eq_true_eq] at inside
    omega
  have argument : ∀ n : Nat, ¬ (n < 1 ∨ 65535 < n) → natOf (leBytes 4 n) = n := fun n inside =>
    natOf_leBytes_of_lt (w := 4) (by omega)
  cases c with
  | lock | takeClosed => rfl
  | pairs n =>
    have value : fieldAt (Cue.wait (.pairs n)).bytes 4 4 = n := argument n (bounds n range)
    unfold waitFields
    rw [value]
    exact if_neg (bounds n range)
  | ticks n =>
    have value : fieldAt (Cue.wait (.ticks n)).bytes 4 4 = n := argument n (bounds n range)
    unfold waitFields
    rw [value]
    exact if_neg (bounds n range)

/-- The field checks read back every cue in range (R161). -/
theorem cueFields_bytes {c : Cue} {size height : Nat} (window : size ≤ 1048576) (rows : height ≤ 4096)
    (range : c.inRange size height = true) : cueFields c.name c.bytes size height = .good c := by
  cases c with
  | park | pad | ret | closeTake => rfl
  | jump t => exact targetField_bytes (code := 0x10#8) (of_decide_eq_true range) window .jump
  | call t => exact targetField_bytes (code := 0x11#8) (of_decide_eq_true range) window .call
  | eye x => rcases x with _ | _ | _ <;> rfl
  | format f =>
    obtain ⟨sized, fits⟩ := f.inRange_iff.1 range
    exact (formatFields_bytes sized).trans (if_neg (Nat.not_lt.2 fits))
  | orient o => cases o <;> rfl
  | probes p => exact probesFields_bytes rows range
  | link b => cases b <;> rfl
  | matching m => exact matchFields_bytes range
  | track t => exact trackFields_bytes range
  | samples x => exact samplesFields_bytes range
  | pace p => exact paceFields_bytes range
  | target t => exact targetFields_bytes range
  | openTake v => exact valueField_bytes 0x50#8 v .openTake
  | note v => exact valueField_bytes 0x58#8 v .note
  | wait w => exact waitFields_bytes range
  -- the recall cue: `recall` is a keyword of Mathlib and cannot name a case
  | _ => rfl

/-- The code byte of a cue's bytes is that of its name. -/
theorem Cue.byteAt_bytes_zero (c : Cue) : byteAt c.bytes 0 = c.name.code := by cases c <;> rfl

theorem cueName_code (n : CueName) : cueName n.code = some n := by cases n <;> rfl

/-- A cue's bytes are as many as its length says (R140). -/
theorem Cue.length_bytes {c : Cue} {size height : Nat} (range : c.inRange size height = true) :
    c.bytes.length = c.name.length c.bytes := by
  cases c with
  | probes p =>
    have few := ((p.inRange_iff height).1 range).1
    have length : CueName.length .probes (Cue.probes p).bytes = 4 + 2 * (byteAt (Cue.probes p).bytes 1).toNat := rfl
    have rows : (p.rows.flatMap (leBytes 2)).length = 2 * p.rows.length := by simp [Nat.mul_comm]
    rw [Cue.name, length, byteAt_probes_count few, Cue.bytes, List.length_append, rows]
    rfl
  | _ => rfl

end Sys2Proof.Machine

open Sys2Proof Sys2Proof.Machine

/-- Settles O52: by the cue, each field reading back the number it was written from. -/
theorem cueBytesDecode : Obligations.CueBytesDecode := by
  unfold Obligations.CueBytesDecode
  intro c size height window rows range
  refine ⟨?_, Cue.length_bytes range, cueFields_bytes window rows range⟩
  exact (congrArg cueName c.byteAt_bytes_zero).trans (cueName_code c.name)

end

section
/-! SUPPORT. What the field checks read spells the bytes it was read from (R161, R200), and the faults they find. -/

namespace Sys2Proof.Machine

section
variable {bs : List Byte} {c : Cue}

/-! ### Codes read -/

theorem packingByte_read {b : Byte} (known : ¬ 1 < b.toNat) :
    packingByte (if b.toNat = 0 then .sequential else .rowPaired) = b := by
  split
  · next zero => exact (eq_ofNat_of_toNat_eq zero).symm
  · next other => exact (eq_ofNat_of_toNat_eq (k := 1) (by omega)).symm

theorem modeByte_read {b : Byte} (known : ¬ 1 < b.toNat) : modeByte (if b.toNat = 0 then .auto else .fixed) = b := by
  split
  · next zero => exact (eq_ofNat_of_toNat_eq zero).symm
  · next other => exact (eq_ofNat_of_toNat_eq (k := 1) (by omega)).symm

theorem depthByte_read {b : Byte} {d : Depth} (read : depthOf b.toNat = some d) : BitVec.ofNat 8 d.bits = b := by
  unfold depthOf at read
  (repeat' split at read) <;> cases read
  all_goals exact (eq_ofNat_of_toNat_eq ‹_›).symm

theorem policyByte_read {b : Byte} {p : OrphanPolicy} (read : policyOf b.toNat = some p) : policyByte p = b := by
  unfold policyOf at read
  (repeat' split at read) <;> cases read
  all_goals exact (eq_ofNat_of_toNat_eq ‹_›).symm

/-! ### Bytes spelled -/

theorem pads_iff : padsZero bs [1, 2, 3] = true ↔ byteAt bs 1 = 0#8 ∧ byteAt bs 2 = 0#8 ∧ byteAt bs 3 = 0#8 := by
  simp [padsZero_iff]

theorem pad_iff (i : Nat) : padsZero bs [i] = true ↔ byteAt bs i = 0#8 := by simp [padsZero_iff]

theorem eq_padded_word (length : bs.length = 8) (pads : padsZero bs [1, 2, 3] = true) :
    bs = [byteAt bs 0, 0#8, 0#8, 0#8] ++ leBytes 4 (fieldAt bs 4 4) := by
  obtain ⟨one, two, three⟩ := pads_iff.1 pads
  have spelled := eq_header_word length
  rwa [one, two, three] at spelled

theorem eq_padded_words (length : bs.length = 12) (pads : padsZero bs [1, 2, 3] = true) :
    bs = [byteAt bs 0, 0#8, 0#8, 0#8] ++ leBytes 4 (fieldAt bs 4 4) ++ leBytes 4 (fieldAt bs 8 4) := by
  obtain ⟨one, two, three⟩ := pads_iff.1 pads
  have spelled := eq_header_words length
  rwa [one, two, three] at spelled

theorem targetField_spells {size : Nat} {mk : Nat → Cue} (length : bs.length = 8)
    (read : targetField bs size mk = .good c) :
    ∃ t, c = mk t ∧ bs = [byteAt bs 0, 0#8, 0#8, 0#8] ++ leBytes 4 t := by
  unfold targetField at read
  split at read
  · cases read
  · next pads =>
    split at read <;> cases read
    exact ⟨_, rfl, eq_padded_word length (by simpa using pads)⟩

theorem valueField_spells {mk : BitVec 32 → Cue} (length : bs.length = 8) (read : valueField bs mk = .good c) :
    ∃ v : BitVec 32, c = mk v ∧ bs = [byteAt bs 0, 0#8, 0#8, 0#8] ++ leBytes 4 v.toNat := by
  unfold valueField at read
  split at read <;> cases read
  next pads =>
    have value : (word32At bs 4).toNat = fieldAt bs 4 4 := Nat.mod_eq_of_lt (fieldAt_lt bs 4 4)
    exact ⟨_, rfl, value ▸ eq_padded_word length (by simpa using pads)⟩

/-- EYE, ORIENT and LINK have one code byte after their own (R167, R171, R174). -/
theorem codeField_spells {n : CueName} {size height : Nat} (short : n = .eye ∨ n = .orient ∨ n = .link)
    (length : bs.length = 2) (code : byteAt bs 0 = n.code) (read : cueFields n bs size height = .good c) :
    bs = c.bytes := by
  have spelled := eq_two_bytes length
  rw [code] at spelled
  rcases short with rfl | rfl | rfl
  all_goals
    simp only [cueFields, eyeField, orientField, linkField] at read
    split at read <;> cases read
    all_goals
      next value =>
        rw [eq_ofNat_of_toNat_eq value] at spelled
        exact spelled

/-- FORMAT reads as BAD_VALUE, or its bytes are those of a format in range but for the frame size (R169). -/
theorem formatFields_spells (length : bs.length = 8) (code : byteAt bs 0 = 0x20#8) :
    formatFields bs = .bad .badValue ∨ ∃ f : FormatSetting, f.Sized ∧ bs = (Cue.format f).bytes := by
  have spelled := eq_header_halves length
  unfold formatFields
  split
  · exact .inl rfl
  · next d depth =>
    split
    · exact .inl rfl
    · next packing =>
      split
      · exact .inl rfl
      · next pad =>
        split
        · exact .inl rfl
        · next width =>
          split
          · exact .inl rfl
          · next height =>
            have zero : byteAt bs 3 = 0#8 := (pad_iff 3).1 (by simpa using pad)
            rw [code, ← depthByte_read depth, ← packingByte_read packing, zero] at spelled
            refine .inr ⟨⟨d, if (byteAt bs 2).toNat = 0 then .sequential else .rowPaired, fieldAt bs 4 2, fieldAt bs 6 2⟩,
              ?_, spelled⟩
            simp only [FormatSetting.Sized]
            omega

theorem probesFields_spells {height : Nat} (length : bs.length = 4 + 2 * (byteAt bs 1).toNat)
    (code : byteAt bs 0 = 0x22#8) (read : probesFields bs height = .good c) : bs = c.bytes := by
  unfold probesFields at read
  split at read
  · cases read
  · split at read
    · cases read
    · next pad =>
      split at read
      · cases read
      · split at read <;> cases read
        have zero : byteAt bs 3 = 0#8 := (pad_iff 3).1 (by simpa using pad)
        have spelled := eq_header_append (bs := bs) (by omega)
        have rows : (probeRows bs).flatMap (leBytes 2) = bs.drop 4 := by
          conv_rhs => rw [← flatMap_map_fieldAt (byteAt bs 1).toNat (bs.drop 4) (by rw [List.length_drop]; omega)]
          simp only [probeRows, fieldAt_drop]
        have count : BitVec.ofNat 8 (probeRows bs).length = byteAt bs 1 := by simp [probeRows]
        have reach : BitVec.ofNat 8 (byteAt bs 2).toNat = byteAt bs 2 := by simp
        rwa [code, ← count, ← reach, zero, ← rows] at spelled

theorem matchFields_spells (length : bs.length = 12) (code : byteAt bs 0 = 0x30#8) (read : matchFields bs = .good c) :
    bs = c.bytes := by
  have spelled := eq_header_words length
  have wait : BitVec.ofNat 8 (byteAt bs 2).toNat = byteAt bs 2 := by simp
  unfold matchFields at read
  split at read
  · cases read
  · next p policy =>
    split at read
    · cases read
    · split at read
      · cases read
      · next pad =>
        have zero : byteAt bs 3 = 0#8 := (pad_iff 3).1 (by simpa using pad)
        split at read
        · cases read
        · split at read <;> cases read
          rwa [code, ← policyByte_read policy, ← wait, zero] at spelled

theorem trackFields_spells (length : bs.length = 8) (code : byteAt bs 0 = 0x31#8) (read : trackFields bs = .good c) :
    bs = c.bytes := by
  have spelled := eq_header_halves length
  have settle : BitVec.ofNat 8 (byteAt bs 2).toNat = byteAt bs 2 := by simp
  have offset : BitVec.ofInt 8 (signedByte (byteAt bs 3)) = byteAt bs 3 := BitVec.ofInt_toInt
  have fill : (BitVec.ofNat 16 (fieldAt bs 6 2)).toNat = fieldAt bs 6 2 := Nat.mod_eq_of_lt (fieldAt_lt bs 6 2)
  unfold trackFields at read
  split at read
  · cases read
  · next mode =>
    split at read
    · cases read
    · split at read <;> cases read
      rwa [code, ← modeByte_read mode, ← settle, ← offset, ← fill] at spelled

theorem samplesFields_spells (length : bs.length = 12) (code : byteAt bs 0 = 0x32#8)
    (read : samplesFields bs = .good c) : bs = c.bytes := by
  unfold samplesFields at read
  split at read
  · cases read
  · next pads =>
    split at read
    · cases read
    · split at read <;> cases read
      have spelled := eq_padded_words length (by simpa using pads)
      rwa [code] at spelled

theorem paceFields_spells (length : bs.length = 12) (code : byteAt bs 0 = 0x33#8)
    (read : paceFields bs = .good c) : bs = c.bytes := by
  unfold paceFields at read
  split at read
  · cases read
  · next pads =>
    split at read
    · cases read
    · split at read <;> cases read
      have spelled := eq_padded_words length (by simpa using pads)
      rwa [code] at spelled

theorem targetFields_spells (length : bs.length = 16) (code : byteAt bs 0 = 0x40#8)
    (read : targetFields bs = .good c) : bs = c.bytes := by
  have spelled := eq_target_layout length
  have tag : (BitVec.ofNat 16 (fieldAt bs 2 2)).toNat = fieldAt bs 2 2 := Nat.mod_eq_of_lt (fieldAt_lt bs 2 2)
  have size : (word32At bs 4).toNat = fieldAt bs 4 4 := Nat.mod_eq_of_lt (fieldAt_lt bs 4 4)
  have address : (BitVec.ofNat 64 (fieldAt bs 8 8)).toNat = fieldAt bs 8 8 := Nat.mod_eq_of_lt (fieldAt_lt bs 8 8)
  unfold targetFields at read
  split at read
  · cases read
  · next pad =>
    have zero : byteAt bs 1 = 0#8 := (pad_iff 1).1 (by simpa using pad)
    split at read <;> cases read
    rwa [code, zero, ← tag, ← size, ← address] at spelled

theorem waitFields_spells (length : bs.length = 8) (code : byteAt bs 0 = 0x5C#8) (read : waitFields bs = .good c) :
    bs = c.bytes := by
  have spelled := eq_header_word length
  have plain : ∀ {w}, plainWait (fieldAt bs 4 4) w = .good c → fieldAt bs 4 4 = 0 ∧ c = .wait w := fun good => by
    unfold plainWait at good
    split at good <;> cases good
    exact ⟨‹_›, rfl⟩
  have counted : ∀ {mk : Nat → WaitCondition}, countedWait (fieldAt bs 4 4) mk = .good c →
      c = .wait (mk (fieldAt bs 4 4)) := fun good => by
    unfold countedWait at good
    split at good <;> cases good
    rfl
  unfold waitFields at read
  split at read
  · cases read
  · next known =>
    split at read
    · cases read
    · next pads =>
      obtain ⟨two, three⟩ : byteAt bs 2 = 0#8 ∧ byteAt bs 3 = 0#8 := by simpa [padsZero_iff] using pads
      rw [code, two, three] at spelled
      split at read
      · next value =>
        obtain ⟨argument, rfl⟩ := plain read
        rw [eq_ofNat_of_toNat_eq value, argument] at spelled
        exact spelled
      · next value =>
        obtain rfl := counted read
        rw [eq_ofNat_of_toNat_eq value] at spelled
        exact spelled
      · next value =>
        obtain rfl := counted read
        rw [eq_ofNat_of_toNat_eq value] at spelled
        exact spelled
      · next notLock notPairs notTicks =>
        obtain ⟨argument, rfl⟩ := plain read
        have others : (byteAt bs 1).toNat ≠ 0 ∧ (byteAt bs 1).toNat ≠ 1 ∧ (byteAt bs 1).toNat ≠ 2 :=
          ⟨notLock, notPairs, notTicks⟩
        have value : (byteAt bs 1).toNat = 3 := by omega
        rw [eq_ofNat_of_toNat_eq value, argument] at spelled
        exact spelled

/-- What the field checks read spells the bytes: no two byte strings read as one cue (R140, R161, R200). -/
theorem cueFields_spells {n : CueName} {size height : Nat} (length : bs.length = n.length bs)
    (code : byteAt bs 0 = n.code) (read : cueFields n bs size height = .good c) : bs = c.bytes := by
  cases n with
  | park | pad | ret | closeTake =>
    cases read
    obtain ⟨b, rfl⟩ := List.length_eq_one_iff.1 length
    exact congrArg ([·]) code
  | jump | call =>
    obtain ⟨t, rfl, spelled⟩ := targetField_spells length read
    rwa [code] at spelled
  | eye | orient | link => exact codeField_spells (by simp) length code read
  | format =>
    rcases formatFields_spells length code with bad | ⟨f, sized, spelled⟩
    · exact nomatch bad.symm.trans read
    · have judged := (formatFields_bytes sized).symm.trans (spelled ▸ read)
      split at judged <;> cases judged
      exact spelled
  | probes => exact probesFields_spells length code read
  | matching => exact matchFields_spells length code read
  | track => exact trackFields_spells length code read
  | samples => exact samplesFields_spells length code read
  | pace => exact paceFields_spells length code read
  | target => exact targetFields_spells length code read
  | openTake | note =>
    obtain ⟨v, rfl, spelled⟩ := valueField_spells length read
    rwa [code] at spelled
  | wait => exact waitFields_spells length code read
  -- the recall cue: `recall` is a keyword of Mathlib and cannot name a case
  | _ =>
    cases read
    obtain ⟨b, rfl⟩ := List.length_eq_one_iff.1 length
    exact congrArg ([·]) code

end

end Sys2Proof.Machine
end

section
/-! SUPPORT. The checks of R142 in their order: the name, what may follow EYE, the length and the window, the fields, and
the state checks and hold conditions. -/

namespace Sys2Proof.Machine

/-! ### Names and lengths (R140) -/

/-- One test of the code byte: it names its cue, or leaves the naming to the tests after it. -/
theorem named_or_later {code value : Byte} {m n : CueName} {later : Option CueName}
    (named : (if code = value then some m else later) = some n) : (code = value ∧ m = n) ∨ later = some n := by
  split at named
  · exact .inl ⟨‹_›, Option.some.inj named⟩
  · exact .inr named

/-- A code byte names the cue whose code it is. -/
theorem cueName_eq_some {code : Byte} {n : CueName} (named : cueName code = some n) : code = n.code := by
  unfold cueName at named
  repeat
    rcases named_or_later named with ⟨value, rfl⟩ | named
    · exact value
  cases named

theorem CueName.code_injective {m n : CueName} (same : m.code = n.code) : m = n :=
  Option.some.inj ((cueName_code m).symm.trans ((congrArg cueName same).trans (cueName_code n)))

/-- The cues whose name alone gives their length (R140). -/
def listedCues : List CueName :=
  [.park, .pad, .ret, .recall, .closeTake, .eye, .orient, .link, .jump, .call, .format, .track, .openTake, .note, .wait,
    .matching, .samples, .pace, .target]

theorem mem_listedCues_iff (n : CueName) : n ∈ listedCues ↔ n ≠ .probes := by cases n <;> decide

/-- Their code bytes and lengths. -/
def cueLengths : List (Byte × Nat) := listedCues.map fun n => (n.code, n.baseLength)

theorem mem_cueLengths_iff {code : Byte} {length : Nat} :
    (code, length) ∈ cueLengths ↔ ∃ n : CueName, n ≠ .probes ∧ n.code = code ∧ n.baseLength = length := by
  simp only [cueLengths, List.mem_map, mem_listedCues_iff, Prod.mk.injEq]

theorem CueName.length_of_listed {n : CueName} (listed : n ≠ .probes) (bs : List Byte) : n.length bs = n.baseLength :=
  if_neg listed

theorem CueName.length_pos (n : CueName) (bs : List Byte) : 0 < n.length bs := by
  cases n with
  | probes => exact Nat.add_pos_left (by decide) _
  | _ => exact Nat.succ_pos _

/-- The length that a cue's bytes give stands among them. -/
theorem CueName.length_take (n : CueName) (bs : List Byte) : n.length (bs.take (n.length bs)) = n.length bs := by
  by_cases listed : n = .probes
  · subst listed
    rw [CueName.length, if_pos rfl, byteAt_take_probes]
    rfl
  · rw [CueName.length_of_listed listed, CueName.length_of_listed listed]

theorem CueName.length_append {n : CueName} {bs : List Byte} (long : n = .probes → 2 ≤ bs.length) (rest : List Byte) :
    n.length (bs ++ rest) = n.length bs := by
  by_cases listed : n = .probes
  · unfold CueName.length
    rw [byteAt_append_left (long listed)]
  · rw [CueName.length_of_listed listed, CueName.length_of_listed listed]

/-- The window-end test by code bytes (R140): PARK and RETURN always fit, JUMP may end at the window's end. -/
theorem CueName.fits_iff {n : CueName} {cursor length size : Nat} (jump : n = .jump → length = 8) :
    n.fits cursor length size = true ↔ (n.code = 0x00#8 ∨ n.code = 0x12#8) ∨ (n.code = 0x10#8 ∧ cursor + 8 ≤ size) ∨
      cursor + length < size := by
  cases n with
  | park | ret => simp [CueName.fits, CueName.code]
  | jump =>
    rw [jump rfl]
    refine ⟨fun fits => .inr (.inl ⟨rfl, of_decide_eq_true fits⟩), ?_⟩
    rintro ((park | ret) | ⟨-, ends⟩ | inside)
    · exact absurd park (by decide)
    · exact absurd ret (by decide)
    · exact decide_eq_true ends
    · exact decide_eq_true inside.le
  | _ => simp [CueName.fits, CueName.code]

/-! ### What may follow EYE (R147) -/

theorem CueName.mayFollowPrefix_iff (n : CueName) :
    n.mayFollowPrefix = true ↔ n.code ∈ [0x21#8, 0x23#8, 0x01#8, 0x00#8] := by cases n <;> decide

theorem prefixFault_eq_none_iff (p : Option EyeChoice) (n : CueName) :
    prefixFault p n = none ↔ p = none ∨ n.code ∈ [0x21#8, 0x23#8, 0x01#8, 0x00#8] := by
  have either : (p = none ∨ n.mayFollowPrefix = true) ↔ (p.isNone || n.mayFollowPrefix) = true := by
    rw [Bool.or_eq_true, Option.isNone_iff_eq_none]
  rw [← n.mayFollowPrefix_iff, either]
  unfold prefixFault
  split
  · next follows => exact iff_of_true rfl follows
  · next broken =>
    refine iff_of_false ?_ broken
    split <;> exact Option.some_ne_none _

theorem prefixFault_eye {p : Option EyeChoice} (behind : p ≠ none) : prefixFault p .eye = some .prefixTwice := by
  cases p with
  | none => exact absurd rfl behind
  | some x => rfl

theorem prefixFault_other {p : Option EyeChoice} {n : CueName} (broken : prefixFault p n ≠ none) (other : n ≠ .eye) :
    prefixFault p n = some .prefixMisplaced := by
  unfold prefixFault at broken ⊢
  split at broken
  · exact absurd rfl broken
  · next follows => rw [if_neg follows, if_neg other]

/-! ### The checks one after another (R142) -/

section
variable {s : State} {code : Byte} {rest : List Byte} {n : CueName}

theorem State.verdict_of_empty (empty : s.reader.buffer = []) : s.verdict = .needByte := by
  unfold State.verdict
  rw [empty]

theorem State.verdict_of_unnamed (buffer : s.reader.buffer = code :: rest) (unnamed : cueName code = none) :
    s.verdict = .fault .unknownCue := by
  unfold State.verdict
  rw [buffer]
  dsimp only
  rw [unnamed]

theorem State.verdict_of_code (buffer : s.reader.buffer = n.code :: rest) : s.verdict = s.judgeNamed n := by
  unfold State.verdict
  rw [buffer]
  dsimp only
  rw [cueName_code]

theorem State.judgeNamed_of_broken {f : FaultCode} (broken : prefixFault s.reader.eyePrefix n = some f) :
    s.judgeNamed n = .fault f := by
  unfold State.judgeNamed
  rw [broken]

theorem State.judgeNamed_of_allowed (allowed : prefixFault s.reader.eyePrefix n = none) :
    s.judgeNamed n = if n = .probes then s.judgeProbes else s.judgeLength n n.baseLength := by
  unfold State.judgeNamed
  rw [allowed]

/-- PROBES whose least length leaves the window (R140, log 16). -/
theorem State.judgeProbes_of_outside (outside : s.regs.bases.cueSize ≤ s.reader.cursor + 4) :
    s.judgeProbes = .fault .windowEnd := by
  have leaves : CueName.fits .probes s.reader.cursor 4 s.regs.bases.cueSize = false :=
    decide_eq_false (Nat.not_lt.2 outside)
  unfold State.judgeProbes
  rw [leaves]
  rfl

/-- PROBES whose least length stands inside the window: its count byte is awaited, and judged (R140, log 16). -/
theorem State.judgeProbes_of_inside (inside : s.reader.cursor + 4 < s.regs.bases.cueSize) : s.judgeProbes =
    if s.reader.buffer.length < 2 then .stall
    else if 8 < (byteAt s.reader.buffer 1).toNat then .fault .badValue
    else s.judgeLength .probes (CueName.length .probes s.reader.buffer) := by
  have stays : CueName.fits .probes s.reader.cursor 4 s.regs.bases.cueSize = true := decide_eq_true inside
  unfold State.judgeProbes
  rw [stays]
  rfl

/-- With its count known to be 8 at most, PROBES is judged by its full length. -/
theorem State.judgeProbes_of_count (valid : 2 ≤ s.reader.buffer.length) (few : (byteAt s.reader.buffer 1).toNat ≤ 8) :
    s.judgeProbes = s.judgeLength .probes (CueName.length .probes s.reader.buffer) := by
  by_cases inside : s.reader.cursor + 4 < s.regs.bases.cueSize
  · rw [State.judgeProbes_of_inside inside, if_neg (Nat.not_lt.2 valid), if_neg (Nat.not_lt.2 few)]
  · have leaves : CueName.fits .probes s.reader.cursor (CueName.length .probes s.reader.buffer)
        s.regs.bases.cueSize = false := decide_eq_false fun fits => by
      have least : 4 ≤ CueName.length .probes s.reader.buffer := Nat.le_add_right ..
      omega
    rw [State.judgeProbes_of_outside (Nat.not_lt.1 inside), State.judgeLength, leaves]
    rfl

/-- A cue of known length that breaks nothing before it is judged by its length. -/
theorem State.verdict_eq_judgeLength (buffer : s.reader.buffer = n.code :: rest)
    (allowed : prefixFault s.reader.eyePrefix n = none)
    (counted : n = .probes → 2 ≤ s.reader.buffer.length ∧ (byteAt s.reader.buffer 1).toNat ≤ 8) :
    s.verdict = s.judgeLength n (n.length s.reader.buffer) := by
  rw [State.verdict_of_code buffer, State.judgeNamed_of_allowed allowed]
  split
  · next probes =>
    subst probes
    exact State.judgeProbes_of_count (counted rfl).1 (counted rfl).2
  · next listed => rw [CueName.length_of_listed listed]

theorem State.judgeLength_of_outside {length : Nat}
    (outside : ¬ n.fits s.reader.cursor length s.regs.bases.cueSize = true) :
    s.judgeLength n length = .fault .windowEnd := if_neg outside

theorem State.judgeLength_of_short {length : Nat} (fits : n.fits s.reader.cursor length s.regs.bases.cueSize = true)
    (short : s.reader.buffer.length < length) : s.judgeLength n length = .stall := by
  rw [State.judgeLength, if_pos fits, State.judgeBytes, if_pos short]

theorem State.judgeLength_of_bad {length : Nat} {f : FaultCode}
    (fits : n.fits s.reader.cursor length s.regs.bases.cueSize = true) (whole : length ≤ s.reader.buffer.length)
    (read : cueFields n (s.reader.buffer.take length) s.regs.bases.cueSize s.settings.format.height = .bad f) :
    s.judgeLength n length = .fault f := by
  rw [State.judgeLength, if_pos fits, State.judgeBytes, if_neg (Nat.not_lt.2 whole), read]

theorem State.judgeLength_of_good {length : Nat} {c : Cue}
    (fits : n.fits s.reader.cursor length s.regs.bases.cueSize = true) (whole : length ≤ s.reader.buffer.length)
    (read : cueFields n (s.reader.buffer.take length) s.regs.bases.cueSize s.settings.format.height = .good c) :
    s.judgeLength n length = s.judgeCue c := by
  rw [State.judgeLength, if_pos fits, State.judgeBytes, if_neg (Nat.not_lt.2 whole), read]

end

/-! ### The field checks (R161) -/

section
variable {bs : List Byte} {n : CueName} {size height : Nat}

/-- The field checks read exactly the cues in range from their bytes. -/
theorem cueFields_eq_good_iff {c : Cue} (length : bs.length = n.length bs) (code : byteAt bs 0 = n.code)
    (counted : n = .probes → (byteAt bs 1).toNat ≤ 8) (window : size ≤ 1048576) (rows : height ≤ 4096) :
    cueFields n bs size height = .good c ↔ c.inRange size height = true ∧ bs = c.bytes := by
  constructor
  · exact fun read => ⟨(cueFields_good read counted).2, cueFields_spells length code read⟩
  · rintro ⟨range, rfl⟩
    obtain rfl : c.name = n := CueName.code_injective (c.byteAt_bytes_zero.symm.trans code)
    exact cueFields_bytes window rows range

/-- The faults that the fields find: BAD_VALUE, JUMP_RANGE and FORMAT_TOO_LARGE. -/
theorem cueFields_bad {f : FaultCode} (read : cueFields n bs size height = .bad f) : f = .badValue ∨
    ((n = .jump ∨ n = .call) ∧ padsZero bs [1, 2, 3] = true ∧ f = .jumpRange) ∨
    (n = .format ∧ formatFields bs = .bad .formatTooLarge ∧ f = .formatTooLarge) := by
  cases n with
  | park | pad | ret | closeTake => cases read
  | jump | call =>
    simp only [cueFields, targetField] at read
    split at read
    · cases read; exact .inl rfl
    · next pads =>
      split at read <;> cases read
      exact .inr (.inl ⟨by simp, by simpa using pads, rfl⟩)
  | format =>
    have fields := read
    simp only [cueFields, formatFields] at read
    (repeat' split at read) <;> cases read
    · exact .inl rfl
    · exact .inl rfl
    · exact .inl rfl
    · exact .inl rfl
    · exact .inl rfl
    · exact .inr (.inr ⟨rfl, fields, rfl⟩)
  | eye | orient | probes | link | matching | track | samples | pace | target | openTake | note | wait =>
    simp only [cueFields, eyeField, orientField, probesFields, linkField, matchFields, trackFields, samplesFields,
      paceFields, targetFields, valueField, waitFields, plainWait, countedWait] at read
    (repeat' split at read) <;> cases read
    all_goals exact .inl rfl
  -- the recall cue: `recall` is a keyword of Mathlib and cannot name a case
  | _ => cases read

/-- JUMP and CALL with their pads 0 fault on their target alone (R164, R165). -/
theorem targetField_bad_of_pads {mk : Nat → Cue} {f : FaultCode} (pads : padsZero bs [1, 2, 3] = true)
    (read : targetField bs size mk = .bad f) : f = .jumpRange := by
  unfold targetField at read
  rw [pads, if_neg (by decide)] at read
  split at read <;> cases read
  rfl

/-- The bytes are those of a FORMAT that is in range but for a frame larger than a slot (R169). -/
def SpellsTooLarge (bs : List Byte) : Prop :=
  ∃ f : FormatSetting, bs = (Cue.format f).bytes ∧ 256 ≤ f.width ∧ f.width ≤ 4096 ∧ f.width % 64 = 0 ∧
    128 ≤ f.height ∧ f.height ≤ 4096 ∧ 8 * 16777216 < f.width * f.height * f.depth.bits

/-- Such a FORMAT faults FORMAT_TOO_LARGE, and no other does. -/
theorem formatFields_tooLarge_iff (length : bs.length = 8) (code : byteAt bs 0 = 0x20#8) :
    formatFields bs = .bad .formatTooLarge ↔ SpellsTooLarge bs := by
  constructor
  · intro read
    rcases formatFields_spells length code with bad | ⟨f, sized, rfl⟩
    · exact nomatch bad.symm.trans read
    · have judged := (formatFields_bytes sized).symm.trans read
      split at judged
      · next large =>
        obtain ⟨wide, widest, aligned, high, highest⟩ := sized
        exact ⟨f, rfl, wide, widest, aligned, high, highest, large⟩
      · cases judged
  · rintro ⟨f, rfl, wide, widest, aligned, high, highest, large⟩
    exact (formatFields_bytes ⟨wide, widest, aligned, high, highest⟩).trans (if_pos large)

/-- Bytes that spell no cue in range fault JUMP_RANGE behind the pads of JUMP and CALL, FORMAT_TOO_LARGE for a frame
larger than a slot, and BAD_VALUE otherwise (R161). -/
theorem cueFields_of_unread (length : bs.length = n.length bs) (code : byteAt bs 0 = n.code)
    (counted : n = .probes → (byteAt bs 1).toNat ≤ 8) (window : size ≤ 1048576) (rows : height ≤ 4096)
    (unread : ∀ c : Cue, c.inRange size height = true → bs ≠ c.bytes) : ∃ f, cueFields n bs size height = .bad f ∧
      (n.code = 0x10#8 ∨ n.code = 0x11#8 → (∀ i ∈ [1, 2, 3], byteAt bs i = 0#8) → f = .jumpRange) ∧
      (n.code = 0x20#8 → SpellsTooLarge bs → f = .formatTooLarge) ∧
      (¬ ((n.code = 0x10#8 ∨ n.code = 0x11#8) ∧ ∀ i ∈ [1, 2, 3], byteAt bs i = 0#8) → ¬ SpellsTooLarge bs →
        f = .badValue) := by
  cases read : cueFields n bs size height with
  | good c =>
    obtain ⟨range, spelled⟩ := (cueFields_eq_good_iff length code counted window rows).1 read
    exact absurd spelled (unread c range)
  | bad f =>
    refine ⟨f, rfl, fun moves pads => ?_, fun format large => ?_, fun still small => ?_⟩
    · rcases moves with jump | call
      · obtain rfl : n = .jump := CueName.code_injective jump
        exact targetField_bad_of_pads ((padsZero_iff ..).2 pads) read
      · obtain rfl : n = .call := CueName.code_injective call
        exact targetField_bad_of_pads ((padsZero_iff ..).2 pads) read
    · obtain rfl : n = .format := CueName.code_injective format
      cases read.symm.trans ((formatFields_tooLarge_iff length code).2 large)
      rfl
    · rcases cueFields_bad read with value | ⟨moves, pads, -⟩ | ⟨rfl, large, -⟩
      · exact value
      · exact absurd ⟨moves.imp (congrArg CueName.code) (congrArg CueName.code), (padsZero_iff ..).1 pads⟩ still
      · exact absurd ((formatFields_tooLarge_iff length code).1 large) small

end

/-! ### The state checks and the hold conditions (R148, R161) -/

section
variable {s : State} {c : Cue}

theorem State.judgeCue_of_fault {f : FaultCode} (fault : s.stateFault c = some f) : s.judgeCue c = .fault f := by
  unfold State.judgeCue
  rw [fault]

theorem State.judgeCue_of_hold {r : HoldReason} (sound : s.stateFault c = none) (hold : s.holdOf c = some r) :
    s.judgeCue c = .hold c r := by
  unfold State.judgeCue
  rw [sound]
  dsimp only
  rw [hold]

theorem State.judgeCue_of_free (sound : s.stateFault c = none) (free : s.holdOf c = none) : s.judgeCue c = .ready c := by
  unfold State.judgeCue
  rw [sound]
  dsimp only
  rw [free]

/-- A cue with one fault of its own and no hold condition. -/
theorem State.judgeCue_fault_or_ready {p : Prop} [Decidable p] {f : FaultCode}
    (fault : s.stateFault c = if p then none else some f) (free : s.holdOf c = none) :
    s.judgeCue c = if p then .ready c else .fault f := by
  split
  · next sound => exact State.judgeCue_of_free (fault.trans (if_pos sound)) free
  · next broken => exact State.judgeCue_of_fault (fault.trans (if_neg broken))

/-- A cue with one hold condition and no fault of its own. -/
theorem State.judgeCue_hold_or_ready {p : Prop} [Decidable p] {r : HoldReason} (sound : s.stateFault c = none)
    (hold : s.holdOf c = if p then none else some r) : s.judgeCue c = if p then .ready c else .hold c r := by
  split
  · next free => exact State.judgeCue_of_free sound (hold.trans (if_pos free))
  · next held => exact State.judgeCue_of_hold sound (hold.trans (if_neg held))

/-- CALL wants room on the return stack (R145). -/
theorem State.judgeCue_call (s : State) (t : Nat) : s.judgeCue (.call t) =
    if s.reader.stack.length < 4 then .ready (.call t) else .fault .callDepth :=
  State.judgeCue_fault_or_ready rfl rfl

/-- RETURN wants an address on the stack (R146). -/
theorem State.judgeCue_ret (s : State) :
    s.judgeCue .ret = if s.reader.stack = [] then .fault .returnEmpty else .ready .ret := by
  rw [← ite_not]
  refine State.judgeCue_fault_or_ready ?_ rfl
  rw [ite_not]
  exact if_congr List.isEmpty_iff rfl rfl

/-- CLOSE TAKE wants the take OPEN (R73, R161). -/
theorem State.judgeCue_closeTake (s : State) : s.judgeCue .closeTake =
    if s.matcher.take = .opened then .ready .closeTake
    else if s.matcher.take = .closed then .fault .noTake else .fault .takeNested := by
  unfold State.judgeCue State.stateFault
  cases s.matcher.take <;> rfl

/-- OPEN TAKE faults in OPEN, and is held in CLOSING or without a place for its record (R72, R148, R161). -/
theorem State.judgeCue_openTake (s : State) (v : BitVec 32) : s.judgeCue (.openTake v) =
    if s.matcher.take = .opened then .fault .takeNested
    else if s.matcher.take = .closing then .hold (.openTake v) .takeClosing
    else if decide (s.writer.held.length + s.writer.reserved < 8) then .ready (.openTake v)
    else .hold (.openTake v) .resultRoom := by
  by_cases opened : s.matcher.take = .opened
  · rw [if_pos opened]
    exact State.judgeCue_of_fault (if_pos opened)
  · have sound : s.stateFault (.openTake v) = none := if_neg opened
    rw [if_neg opened]
    by_cases closing : s.matcher.take = .closing
    · rw [if_pos closing]
      exact State.judgeCue_of_hold sound (if_pos closing)
    · rw [if_neg closing]
      exact State.judgeCue_hold_or_ready sound (if_neg closing)

end

/-! ### A cue whose length is known -/

/-- A code byte is listed, or is that of PROBES, where it is the code of a cue. -/
theorem named_iff {code : Byte} :
    (code = 0x22#8 ∨ ∃ length, (code, length) ∈ cueLengths) ↔ ∃ n : CueName, n.code = code := by
  constructor
  · rintro (rfl | ⟨length, listed⟩)
    · exact ⟨.probes, rfl⟩
    · obtain ⟨n, -, coded, -⟩ := mem_cueLengths_iff.1 listed
      exact ⟨n, coded⟩
  · rintro ⟨n, rfl⟩
    by_cases listed : n = .probes
    · exact .inl (congrArg CueName.code listed)
    · exact .inr ⟨_, mem_cueLengths_iff.2 ⟨n, listed, rfl, rfl⟩⟩

/-- A length is known from the code byte, or for PROBES from its count byte (R140). -/
theorem exists_length_eq {code : Byte} {rest : List Byte} {length : Nat} (known : (code, length) ∈ cueLengths ∨
      (code = 0x22#8 ∧ ∃ count more, rest = count :: more ∧ count.toNat ≤ 8 ∧ length = 4 + 2 * count.toNat)) :
    ∃ n : CueName, n.code = code ∧ n.length (code :: rest) = length ∧
      (n = .probes → 2 ≤ (code :: rest).length ∧ (byteAt (code :: rest) 1).toNat ≤ 8) := by
  rcases known with listed | ⟨rfl, count, more, rfl, few, rfl⟩
  · obtain ⟨n, other, coded, long⟩ := mem_cueLengths_iff.1 listed
    exact ⟨n, coded, (CueName.length_of_listed other _).trans long, fun probes => absurd probes other⟩
  · exact ⟨.probes, rfl, rfl, fun _ => ⟨Nat.le_add_left .., few⟩⟩

theorem Cue.bytes_eq_cons (c : Cue) : ∃ more, c.bytes = c.name.code :: more := by cases c <;> exact ⟨_, rfl⟩

/-- The count byte of a PROBES cue in range. -/
theorem Cue.count_of_probes {c : Cue} {size height : Nat} (probes : c.name = .probes)
    (range : c.inRange size height = true) : 2 ≤ c.bytes.length ∧ (byteAt c.bytes 1).toNat ≤ 8 := by
  have long : c.bytes.length = 4 + 2 * (byteAt c.bytes 1).toNat :=
    (Cue.length_bytes range).trans (congrArg (CueName.length · c.bytes) probes)
  refine ⟨by omega, ?_⟩
  cases c with
  | probes p =>
    have few := ((p.inRange_iff height).1 range).1
    rwa [byteAt_probes_count few]
  | _ => cases probes

/-- A cue that stands whole and in range at the cursor, that fits and may stand there, passes every check but its own
(R142). -/
theorem State.verdict_of_whole {s : State} {c : Cue} {rest : List Byte} (window : s.regs.bases.cueSize ≤ 1048576)
    (rows : s.settings.format.height ≤ 4096)
    (range : c.inRange s.regs.bases.cueSize s.settings.format.height = true) (buffer : s.reader.buffer = c.bytes ++ rest)
    (allowed : prefixFault s.reader.eyePrefix c.name = none)
    (fits : c.name.fits s.reader.cursor c.bytes.length s.regs.bases.cueSize = true) :
    s.verdict = s.judgeCue c := by
  obtain ⟨more, cons⟩ := c.bytes_eq_cons
  have coded : s.reader.buffer = c.name.code :: (more ++ rest) := by rw [buffer, cons, List.cons_append]
  have long : c.bytes.length = c.name.length c.bytes := Cue.length_bytes range
  have known : c.name.length s.reader.buffer = c.bytes.length := by
    rw [buffer, long]
    exact CueName.length_append (fun probes => (Cue.count_of_probes probes range).1) rest
  have counted : c.name = .probes → 2 ≤ s.reader.buffer.length ∧ (byteAt s.reader.buffer 1).toNat ≤ 8 := fun probes => by
    obtain ⟨valid, few⟩ := Cue.count_of_probes probes range
    rw [buffer, byteAt_append_left valid, List.length_append]
    exact ⟨valid.trans (Nat.le_add_right ..), few⟩
  rw [State.verdict_eq_judgeLength coded allowed counted, known]
  refine State.judgeLength_of_good fits (by rw [buffer, List.length_append]; omega) ?_
  rw [buffer, List.take_left]
  exact cueFields_bytes window rows range

end Sys2Proof.Machine

open Sys2Proof Sys2Proof.Machine

/-- Settles O53: the checks are taken in their order, each with what it needs to know of the bytes at the cursor. -/
theorem wholeCuePasses : Obligations.WholeCuePasses := by
  unfold Obligations.WholeCuePasses
  refine ⟨fun c rest s window rows range buffer allowed fits sound free => ?_, fun s empty => State.verdict_of_empty empty,
    fun code rest s buffer => ?_⟩
  · rw [State.verdict_of_whole window rows range buffer allowed fits]
    exact State.judgeCue_of_free sound free
  intro r size lengths named mayFollow
  have isNamed : named ↔ ∃ n : CueName, n.code = code := named_iff
  have follows : ∀ n : CueName, n.code = code → (prefixFault r.eyePrefix n = none ↔ mayFollow) := by
    rintro n rfl
    exact prefixFault_eq_none_iff _ n
  refine ⟨fun unnamed => ?_, fun behind eye => ?_, fun known broken other => ?_, fun probes allowed => ?_,
    fun length known allowed => ?_⟩
  · refine State.verdict_of_unnamed buffer (Option.eq_none_iff_forall_ne_some.2 fun n naming => unnamed ?_)
    exact isNamed.2 ⟨n, (cueName_eq_some naming).symm⟩
  · rw [State.verdict_of_code (n := .eye) (eye ▸ buffer)]
    exact State.judgeNamed_of_broken (prefixFault_eye behind)
  · obtain ⟨n, rfl⟩ := isNamed.1 known
    rw [State.verdict_of_code buffer]
    refine State.judgeNamed_of_broken (prefixFault_other (mt (follows n rfl).1 broken) fun eye => other ?_)
    exact congrArg CueName.code eye
  · subst probes
    have judged : s.verdict = s.judgeProbes :=
      (State.verdict_of_code (n := .probes) buffer).trans
        ((State.judgeNamed_of_allowed ((follows .probes rfl).2 allowed)).trans (if_pos rfl))
    rw [judged]
    refine ⟨fun outside => State.judgeProbes_of_outside outside, fun inside alone => ?_,
      fun inside count more counted many => ?_⟩
    · rw [State.judgeProbes_of_inside inside, buffer, alone]
      rfl
    · rw [State.judgeProbes_of_inside inside, buffer, counted]
      exact if_pos many
  · obtain ⟨n, rfl, rfl, counted⟩ := exists_length_eq known
    rw [← buffer] at counted ⊢
    intro fits height bytes room judged padded tooLarge
    have byLength : s.verdict = s.judgeLength n (n.length r.buffer) :=
      State.verdict_eq_judgeLength buffer ((follows n rfl).2 allowed) counted
    have fitting : n.fits r.cursor (n.length r.buffer) size = true ↔ fits := CueName.fits_iff (by rintro rfl; rfl)
    rw [byLength]
    refine ⟨fun outside => State.judgeLength_of_outside (mt fitting.1 outside),
      fun inside short => State.judgeLength_of_short (fitting.2 inside) short, fun inside whole window rows => ?_⟩
    have coded : byteAt bytes 0 = n.code := by
      rw [byteAt_take (n.length_pos _), buffer]
      rfl
    have long : bytes.length = n.length bytes := by
      rw [n.length_take, List.length_take, Nat.min_eq_left whole]
    have few : n = .probes → (byteAt bytes 1).toNat ≤ 8 := by
      rintro rfl
      rw [byteAt_take_probes]
      exact (counted rfl).2
    refine ⟨fun c range spelled => ?_, fun unread => ?_⟩
    · have read : cueFields n bytes size height = .good c :=
        (cueFields_eq_good_iff long coded few window rows).2 ⟨range, spelled⟩
      rw [State.judgeLength_of_good (fitting.2 inside) whole read]
      cases c with
      | call t => exact s.judgeCue_call t
      | ret => exact s.judgeCue_ret
      | openTake v => exact s.judgeCue_openTake v
      | closeTake => exact s.judgeCue_closeTake
      | target | note | format | orient | probes => exact State.judgeCue_hold_or_ready rfl rfl
      | park | pad | jump | eye | link | matching | track | samples | pace | wait => rfl
      -- the recall cue: `recall` is a keyword of Mathlib and cannot name a case
      | _ => exact State.judgeCue_hold_or_ready rfl rfl
    · obtain ⟨f, bad, jump, format, other⟩ := cueFields_of_unread long coded few window rows unread
      rw [State.judgeLength_of_bad (fitting.2 inside) whole bad]
      exact ⟨fun moves pads => congrArg Verdict.fault (jump moves pads),
        fun code large => congrArg Verdict.fault (format code large),
        fun still small => congrArg Verdict.fault (other still small)⟩

end

section
/-! SUPPORT. The run state (R189 to R199): every operation of the blocks leaves it, with the queue, so that START, STOP,
the header's return, a bus error, a reset and the end of DRAINING alone move it. -/

namespace Sys2Proof.Machine

/-! ### The shared operations -/

theorem State.Act.run {s t : State} (a : s.Act t) : t.regs.run = s.regs.run := by
  cases a with
  | pair l r _ _ _ => unfold State.formPair State.updateSkew; dsimp only; split <;> simp
  | orphan e x _ _ => rfl
  | release e x _ => rfl

section
variable (s : State) (e : Eye)

@[simp] theorem State.pass_run : s.pass.regs.run = s.regs.run :=
  State.pass_induction (P := fun t => t.regs.run = s.regs.run) (fun _ _ h a => a.run.trans h)
    (fun t h => by rw [t.closeCheck_regs]; exact h) rfl

@[simp] theorem State.dispose_run : s.dispose.regs.run = s.regs.run := by
  unfold State.dispose; simp

@[simp] theorem State.changeSync_run (g : Receiver → Receiver) : (s.changeSync e g).regs.run = s.regs.run := by
  unfold State.changeSync State.tellLeft; split <;> simp

@[simp] theorem State.linkOff_run : (s.linkOff e).regs.run = s.regs.run := by unfold State.linkOff; split <;> simp

@[simp] theorem State.linkOn_run : (s.linkOn e).regs.run = s.regs.run := by unfold State.linkOn; split <;> simp

end

/-- The queue and the run state stay. -/
structure State.Steady (s t : State) : Prop where
  pending : t.pending = s.pending
  run : t.regs.run = s.regs.run

namespace State.Steady
variable {s t u : State}

theorem refl (s : State) : s.Steady s := ⟨rfl, rfl⟩

theorem congr (h : s.Steady t) (pending : u.pending = t.pending := by simp)
    (run : u.regs.run = t.regs.run := by simp) : s.Steady u := ⟨pending.trans h.pending, run.trans h.run⟩

/-- A conditional effect. -/
theorem ite {p : Prop} [Decidable p] (yes : s.Steady t) (no : s.Steady u) : s.Steady (if p then t else u) := by
  split
  · exact yes
  · exact no

/-! ### The updates of the blocks and the shared operations -/

theorem onReceiver (h : s.Steady t) (e f) : s.Steady (t.onReceiver e f) := h.congr
theorem onMatcher (h : s.Steady t) (f) : s.Steady (t.onMatcher f) := h.congr
theorem onReader (h : s.Steady t) (f) : s.Steady (t.onReader f) := h.congr
theorem onWriter (h : s.Steady t) (f) : s.Steady (t.onWriter f) := h.congr
theorem onSettings (h : s.Steady t) (f) : s.Steady (t.onSettings f) := h.congr
theorem onStore (h : s.Steady t) (f) : s.Steady (t.onStore f) := h.congr
theorem onPace (h : s.Steady t) (f) : s.Steady (t.onPace f) := h.congr
theorem onAlign (h : s.Steady t) (f) : s.Steady (t.onAlign f) := h.congr
theorem onDelivery (h : s.Steady t) (f) : s.Steady (t.onDelivery f) := h.congr
theorem onPort (h : s.Steady t) (p f) : s.Steady (t.onPort p f) := h.congr
theorem setIrq (h : s.Steady t) (c e) : s.Steady (t.setIrq c e) := h.congr
theorem setCause (h : s.Steady t) (c) : s.Steady (t.setCause c) := h.congr
theorem place (h : s.Steady t) (r) : s.Steady (t.place r) := h.congr
theorem closeCheck (h : s.Steady t) : s.Steady t.closeCheck := h.congr
theorem pass (h : s.Steady t) : s.Steady t.pass := h.congr
theorem dispose (h : s.Steady t) : s.Steady t.dispose := h.congr
theorem changeSync (h : s.Steady t) (e g) : s.Steady (t.changeSync e g) := h.congr
theorem linkOff (h : s.Steady t) (e) : s.Steady (t.linkOff e) := h.congr
theorem linkOn (h : s.Steady t) (e) : s.Steady (t.linkOn e) := h.congr

/-! ### The Link Receivers -/

theorem enterFrameLock (h : s.Steady t) (e) : s.Steady (t.enterFrameLock e) := by
  unfold State.enterFrameLock
  exact h.congr

theorem completeIfFilling (h : s.Steady t) (e tail) : s.Steady (t.completeIfFilling e tail) := by
  unfold State.completeIfFilling State.completeFrame
  split
  · exact h
  · split <;> exact h.congr

theorem arrival (h : s.Steady t) (e head) : s.Steady (t.arrival e head) := by
  unfold State.arrival State.claim State.slip State.beginFill
  refine ite ?_ h.congr
  split <;> exact h.congr

theorem lockedRow (h : s.Steady t) (e length mark body) : s.Steady (t.lockedRow e length mark body) := by
  unfold State.lockedRow State.fillRow
  refine ite h.congr ?_
  split
  · exact h.congr
  · exact ite h.congr h.congr

theorem rowAtPosition (h : s.Steady t) (e mark body) : s.Steady (t.rowAtPosition e mark body) := by
  unfold State.rowAtPosition State.takeRow
  split
  · exact h
  · refine ite ?_ h
    split
    · exact h.congr
    · exact h.lockedRow _ _ _ _
    · exact h.lockedRow _ _ _ _
    all_goals exact h

theorem takeHead (h : s.Steady t) (e head) : s.Steady (t.takeHead e head) := by
  have placed : s.Steady (t.onReceiver e fun r => r.passBoundary 24) := h.congr
  unfold State.takeHead State.headInRowLock State.headInFrameLock State.countBadHead
  dsimp only
  split
  · exact ite ((placed.enterFrameLock e).arrival e head) placed.congr
  · exact ite (State.Steady.arrival (State.Steady.completeIfFilling placed.congr e none) e head) placed.congr
  all_goals exact placed

theorem takeTail (h : s.Steady t) (e tail) : s.Steady (t.takeTail e tail) :=
  ite (State.Steady.completeIfFilling h.congr e _) h.congr

/-- In OFF a link command discards its bytes, and elsewhere it has its effect (R3). -/
theorem unlessOff (h : s.Steady t) (effect : s.Steady u) (e f) : s.Steady (t.unlessOff e f u) :=
  ite h.congr effect

theorem takeSilenceTick (h : s.Steady t) (e) : s.Steady (t.takeSilenceTick e) := by
  unfold State.takeSilenceTick
  dsimp only
  split
  · exact ite h.congr h.congr
  · exact ite h.congr h.congr
  all_goals exact h

theorem takeOwedSilence (h : s.Steady t) (e) : s.Steady (t.takeOwedSilence e) :=
  ite (State.Steady.takeSilenceTick h.congr e) h

/-! ### The Pair Matcher's ticks -/

theorem takeTick (h : s.Steady t) : s.Steady t.takeTick := by
  unfold State.takeTick State.advanceWaits
  exact h.congr

theorem takeOwedTick (h : s.Steady t) : s.Steady t.takeOwedTick := ite (takeTick (h.congr rfl rfl)) h

/-! ### The Alignment Unit, the Delivery Engine and the Result Writer -/

theorem measurementDone (h : s.Steady t) (m) : s.Steady (t.measurementDone m) := by
  unfold State.measurementDone State.finishEntry State.removeIdle
  dsimp only
  split
  · exact h.congr
  · split <;> exact h.congr

theorem startDelivery (h : s.Steady t) (target entry) : s.Steady (t.startDelivery target entry) := by
  unfold State.startDelivery State.shortTarget State.beginCopy
  exact ite h.congr h.congr

theorem completeCopy (h : s.Steady t) (c entry) : s.Steady (t.completeCopy c entry) := by
  unfold State.completeCopy State.placeReserved
  have carried : s.Steady (t.carryAll (c.remaining t.store.mem entry)) := h.congr rfl rfl
  exact carried.congr

theorem consumedReturned (h : s.Steady t) (v) : s.Steady (t.consumedReturned v) := by
  unfold State.consumedReturned State.judgeAgain State.issueRecord State.lacksRoom
  split
  · exact h.congr
  · exact ite h.congr (ite h.congr h.congr)

theorem acceptFinal (h : s.Steady t) : s.Steady t.acceptFinal := by
  unfold State.acceptFinal
  split
  · exact h
  · exact ite (h.congr rfl rfl) h

/-! ### Pace ticks and the Pace Generator -/

theorem readerTick (h : s.Steady t) : s.Steady t.readerTick := by
  unfold State.readerTick
  split
  · exact ite (h.onReader _) h
  · exact h.onReader _

theorem writerTick (h : s.Steady t) : s.Steady t.writerTick := ite (h.onWriter _) h

theorem issueStatus (h : s.Steady t) (final) : s.Steady (t.issueStatus final) := by
  unfold State.issueStatus
  exact h.onWriter _

theorem statusTick (h : s.Steady t) : s.Steady t.statusTick :=
  ite (ite (h.onWriter _) (ite h (h.issueStatus false))) h

theorem ageSamples (h : s.Steady t) (p) : s.Steady (t.ageSamples p) := h.onPort p _

theorem observe (h : s.Steady t) (o : TickObserver) : s.Steady (t.observe o) := by
  cases o with
  | linkReceiver e => exact (h.takeOwedSilence e).takeSilenceTick e
  | samplePort p => exact h.ageSamples p
  | pairMatcher => exact ite h h.takeOwedTick.takeTick
  | cueReader => exact h.readerTick
  | resultWriter => exact h.writerTick.statusTick

theorem observeLater (h : s.Steady t) (o : TickObserver) : s.Steady (t.observeLater o) := by
  cases o with
  | linkReceiver e => exact ite ((h.takeOwedSilence e).onReceiver e _) ((h.takeOwedSilence e).takeSilenceTick e)
  | pairMatcher => exact ite h (ite (h.takeOwedTick.onMatcher _) h.takeOwedTick.takeTick)
  | samplePort p => exact h.observe (.samplePort p)
  | cueReader => exact h.observe .cueReader
  | resultWriter => exact h.observe .resultWriter

theorem tick (h : s.Steady t) (order : List TickObserver) : s.Steady (t.tick order) :=
  List.foldlRecOn _ _ (List.foldlRecOn _ _ h fun _ k o _ => k.observe o) fun _ k o _ => k.observeLater o

theorem enterHoldover (h : s.Steady t) (base order) : s.Steady (t.enterHoldover base order) := by
  have begun := h.onPace PaceGenerator.beginHoldover
  unfold State.enterHoldover
  exact ite ((State.Steady.tick (ite ((begun.onPace _).setCause _) (begun.onPace _)) order).setCause _)
    ((begun.onPace _).setCause _)

theorem seekLock (h : s.Steady t) (i order) : s.Steady (t.seekLock i order) :=
  ite ((((h.onPace _).onPace _).tick order).setCause _) (h.onPace _)

theorem takePulse (h : s.Steady t) (order) : s.Steady (t.takePulse order) := by
  have noted := h.onPace fun g => { g with previousPulse := some t.now }
  unfold State.takePulse State.judgedPulse
  dsimp only
  split
  · exact noted
  · split
    · exact ite (((noted.onPace _).onPace _).tick order) ((noted.onPace _).enterHoldover _ order)
    all_goals exact (noted.onPace _).seekLock _ order

theorem timerTick (h : s.Steady t) (timer order) : s.Steady (t.timerTick timer order) :=
  State.Steady.tick (ite ((h.onPace _).setCause _) (h.onPace _)) order

/-! ### The Cue Reader and the cues -/

theorem decodesOn (h : s.Steady t) (d : DecodesOn t u) : s.Steady u := by
  refine h.congr d.pending ?_
  obtain ⟨regs, -, -⟩ | ⟨-, -, -, regs, -⟩ := d.outcome <;> rw [regs]

theorem tryFetch (h : s.Steady t) : s.Steady t.tryFetch := ite h.congr h

theorem resume (h : s.Steady t) : s.Steady t.resume := h.decodesOn t.resume_decodesOn

theorem setReader (h : s.Steady t) (x) : s.Steady (t.setReader x) := h.congr rfl rfl

theorem fetchReturned (h : s.Steady t) (f word) : s.Steady (t.fetchReturned f word) := by
  have placed : s.Steady ((t.onReader fun r => { r with fetch := none }).onReader fun r => r.placeWord word) :=
    h.congr
  unfold State.fetchReturned State.afterWord
  refine ite h.congr (ite ?_ (State.Steady.tryFetch h.congr))
  split
  · exact ite (placed.setReader _).resume placed
  · exact placed.resume

theorem advancePast (h : s.Steady t) (n) : s.Steady (t.advancePast n) := (h.onReader _).resume

theorem jumpTo (h : s.Steady t) (cursor) : s.Steady (t.jumpTo cursor) := (h.onReader _).resume

theorem effectReturn (h : s.Steady t) : s.Steady t.effectReturn := by
  unfold State.effectReturn
  split
  · exact h
  · exact (h.onReader _).jumpTo _

theorem flush (h : s.Steady t) (counted) : s.Steady (t.flush counted) :=
  ((((h.onReceiver .left _).onReceiver .right _).onStore _).onMatcher _).onAlign _

theorem tellLink (h : s.Steady t) (p enable e) : s.Steady (t.tellLink p enable e) :=
  ite (ite (h.linkOn e) (h.linkOff e)) h

/-- Every cue leaves the queue and the run state. -/
theorem perform (h : s.Steady t) (c : Cue) : s.Steady (t.perform c) := by
  cases c with
  | park => exact (h.onReader _).setCause _
  | pad => exact h.advancePast _
  | jump target => exact h.jumpTo target
  | call target => exact (h.onReader _).jumpTo target
  | ret => exact h.effectReturn
  | eye x => exact (h.onReader _).advancePast _
  | format f => exact (((h.flush true).onSettings _).onAlign _).advancePast _
  | orient o => exact ((((h.flush true).onSettings _).onReader _).onAlign _).advancePast _
  | probes p => exact (((h.flush true).onSettings _).onAlign _).advancePast _
  | link enable => exact ((((h.onSettings _).onReader _).tellLink _ _ _).tellLink _ _ _).advancePast _
  | matching m => exact ((h.onSettings _).onMatcher _).pass.advancePast _
  | track x => exact ((h.onSettings _).onAlign _).advancePast _
  | samples x => exact (h.onSettings _).advancePast _
  | pace p => exact ((h.onSettings _).onPace _).advancePast _
  | target x => exact (h.onDelivery _).advancePast _
  | openTake n => exact ((h.onMatcher _).place _).advancePast _
  | closeTake => exact (h.onMatcher _).closeCheck.advancePast _
  | note v => exact (h.place _).advancePast _
  | wait c => exact (h.onReader _).resume
  -- the recall cue: `recall` is a keyword of Mathlib and cannot name a case
  | _ => exact ((h.onDelivery _).place _).advancePast _

theorem cueCommand (h : s.Steady t) (n) : s.Steady (t.cueCommand n) := by
  unfold State.cueCommand State.holdCue
  split
  · exact ite (h.perform _) h
  · exact ite (h.setReader _).tryFetch h
  · exact h

theorem judgeHeld (h : s.Steady t) : s.Steady t.judgeHeld := by
  unfold State.judgeHeld
  split
  · exact h.perform _
  · exact h.setReader _
  · exact h

/-! ### The START actions (R192) -/

theorem startCause (h : s.Steady t) (e) : s.Steady (t.startCause e) := ite (h.setCause _) h

theorem startLinks (h : s.Steady t) : s.Steady t.startLinks :=
  ((h.startCause .left).startCause .right |>.onReceiver .left _).onReceiver .right _

theorem startBlocks (h : s.Steady t) : s.Steady t.startBlocks := h.congr rfl rfl

end State.Steady

/-! ### Every command -/

/-- A command leaves the queue, and where it takes the part into IDLE the blocks are at rest (R194, R199). -/
structure State.Proceeds (s t : State) : Prop where
  pending : t.pending = s.pending
  enters : t.regs.run = .idle → s.regs.run = .idle ∨ t.atRest

/-- What a reset and the end of DRAINING leave is at rest. -/
theorem State.atRest_powerOn (p : Straps) : (State.powerOn p).atRest := by
  refine ⟨fun x inside => (List.mem_replicate.1 inside).2, ?_⟩
  simp [State.powerOn, FrameStore.reset, Receiver.atRest, Receiver.reset, PairMatcher.reset, SamplePort.reset,
    AlignmentUnit.reset, DeliveryEngine.reset, ResultWriter.reset, CueReader.reset, RegisterWindow.reset]

/-- The blocks are at rest after every reset: it differs from a power-on reset in what `atRest` does not read. -/
theorem State.atRest_restart (s : State) (p : Straps) : (s.restart p).atRest := State.atRest_powerOn p

theorem State.atRest_softReset (s : State) : s.softReset.atRest := s.atRest_restart s.straps

/-- Entry to IDLE, with no header read in flight, is a state of rest (R194). -/
theorem State.atRest_enterIdle {s : State} (header : s.regs.headerRead = none) : s.enterIdle.atRest := by
  refine ⟨fun x inside => (List.mem_replicate.1 inside).2, rfl, rfl, ⟨rfl, rfl, rfl, rfl⟩, ⟨rfl, rfl, rfl, rfl⟩, rfl,
    rfl, rfl, rfl, rfl, rfl, rfl, rfl, rfl, rfl, rfl, rfl, rfl, rfl, rfl, rfl, rfl, header⟩

namespace State.Proceeds
variable {s t u : State}

theorem of_steady (h : s.Steady t) : s.Proceeds t := ⟨h.pending, fun run => .inl (h.run.symm.trans run)⟩

theorem of_run (pending : t.pending = s.pending) (run : t.regs.run ≠ .idle) : s.Proceeds t :=
  ⟨pending, fun idle => absurd idle run⟩

theorem refl (s : State) : s.Proceeds s := of_steady (.refl s)

/-- A conditional effect. -/
theorem ite {p : Prop} [Decidable p] (yes : p → s.Proceeds t) (no : ¬ p → s.Proceeds u) :
    s.Proceeds (if p then t else u) := by
  split
  · exact yes ‹_›
  · exact no ‹_›

/-! ### The Register Window -/

theorem halt (h : t.pending = s.pending) (reason) : s.Proceeds (t.halt reason) := by
  unfold State.halt
  exact of_run (by simpa using h) (by simp)

theorem commandStart (s : State) : s.Proceeds s.commandStart := by
  have accepted : s.Proceeds s.acceptStart := ite (fun _ => of_run rfl nofun) fun _ =>
      halt (s.onRegs_pending _) _
  unfold State.commandStart
  split
  · exact accepted
  · exact accepted
  all_goals exact of_steady ⟨rfl, rfl⟩

theorem commandStop (s : State) : s.Proceeds s.commandStop := by
  have accepted : s.Proceeds s.acceptStop := by
    unfold State.acceptStop State.stopActions State.dropPartials State.setReader
    exact of_run (by simp) (by simp)
  unfold State.commandStop
  split
  · exact accepted
  · exact accepted
  all_goals exact of_steady ⟨rfl, rfl⟩

theorem softReset (s : State) : s.Proceeds s.softReset := ⟨rfl, fun _ => .inr s.atRest_softReset⟩

theorem writeRegister (s : State) (offset v) : s.Proceeds (s.writeRegister offset v) := by
  have same := State.Steady.refl s
  unfold State.writeRegister State.writeControl State.writeCause State.writeEnable
  split
  · split
    · exact commandStart s
    · exact commandStop s
    · exact softReset s
    · exact refl s
  · exact of_steady (same.setIrq _ _)
  · exact of_steady (same.setIrq _ _)
  all_goals exact of_steady ⟨rfl, rfl⟩

/-- A valid header enters RUNNING (R192). -/
theorem enterRunning (h : t.pending = s.pending) (header exchange) : s.Proceeds (t.enterRunning header exchange) := by
  have started := (((State.Steady.refl (t.onRegs fun r => r.enterRunning header exchange)).flush false).startLinks
    |>.startBlocks).tryFetch
  exact of_run (started.pending.trans h) fun idle => nomatch started.run.symm.trans idle

theorem busError (s : State) : s.Proceeds s.busError := by
  unfold State.busError
  exact halt (by simp [State.dropPartials, State.dropCopy]) _

/-- END_OF_DRAINING enters IDLE where no header read is in flight (R193, R194). -/
theorem endOfDraining (s : State) : ∃ t, exec .endOfDraining s = .next t ∧ s.Proceeds t := by
  have accepted := State.Steady.ite (p := s.writer.final = .issued) (State.Steady.refl s).acceptFinal (.refl s)
  refine ⟨_, rfl, ite (fun _ => ite (fun complete => ⟨?_, fun _ => .inr (State.atRest_enterIdle ?_)⟩)
    fun _ => refl s) fun _ => refl s⟩
  · exact (State.enterIdle_keeps _).2.2.2.1.trans accepted.pending
  · simp only [State.drainComplete, Bool.and_eq_true, Option.isNone_iff_eq_none] at complete
    exact complete.1

theorem headerReadReturn (s : State) (header) : ∃ t, exec (.headerReadReturn header) s = .next t ∧ s.Proceeds t := by
  refine ⟨_, rfl, ?_⟩
  split
  · exact refl s
  · exact ite (fun _ => ite (fun _ => enterRunning (s.onRegs_pending _) _ _) fun _ =>
      halt (s.onRegs_pending _) _) fun _ => of_steady ⟨rfl, rfl⟩

/-! ### The commands with more than one way to end -/

theorem tickTimerExpiry (s : State) (order) : ∃ t, exec (.tickTimerExpiry order) s = .next t ∧ s.Proceeds t := by
  refine ⟨_, rfl, ?_⟩
  split
  · exact refl s
  · exact of_steady ((State.Steady.refl s).timerTick _ order)

theorem holdoverLimitReached (s : State) (order) :
    ∃ t, exec (.holdoverLimitReached order) s = .next t ∧ s.Proceeds t := by
  refine ⟨_, rfl, ?_⟩
  split
  · exact refl s
  · exact of_steady (.ite ((State.Steady.refl s).timerTick _ order) (.refl s))

theorem measurementBegin (s : State) : ∃ t, exec .measurementBegin s = .next t ∧ s.Proceeds t := by
  refine ⟨_, rfl, ite (fun _ => ?_) fun _ => refl s⟩
  split
  · exact refl s
  · exact of_steady ((State.Steady.refl s).onAlign _)

theorem measurementEnd (s : State) : ∃ t, exec .measurementDone s = .next t ∧ s.Proceeds t := by
  refine ⟨_, rfl, ?_⟩
  split
  · exact refl s
  · exact of_steady ((State.Steady.refl s).measurementDone _)

theorem deliveryStart (s : State) : ∃ t, exec .deliveryStart s = .next t ∧ s.Proceeds t := by
  refine ⟨_, rfl, ite (fun _ => ?_) fun _ => refl s⟩
  split
  · exact of_steady ((State.Steady.refl s).startDelivery _ _)
  · exact refl s

theorem copyCompletion (s : State) (writes) : ∃ t, exec (.copyCompletion writes) s = .next t ∧ s.Proceeds t := by
  refine ⟨_, rfl, ?_⟩
  split
  · refine ite (fun _ => ?_) fun _ => refl s
    split
    · exact of_steady ((State.Steady.refl s).completeCopy _ _)
    · exact of_steady ⟨rfl, rfl⟩
  · exact refl s

theorem recordWriteAccepted (s : State) : ∃ t, exec .recordWriteAccepted s = .next t ∧ s.Proceeds t := by
  refine ⟨_, rfl, ?_⟩
  split
  · exact refl s
  · exact of_steady (.ite (State.Steady.congr (.refl s)) (.refl s))

theorem statusWriteAccepted (s : State) : ∃ t, exec .statusWriteAccepted s = .next t ∧ s.Proceeds t := by
  refine ⟨_, rfl, ?_⟩
  split
  · exact refl s
  · exact of_steady (.ite ⟨rfl, rfl⟩ (.refl s))

theorem cueFetchReturn (s : State) (word) : ∃ t, exec (.cueFetchReturn word) s = .next t ∧ s.Proceeds t := by
  refine ⟨_, rfl, ?_⟩
  split
  · exact refl s
  · exact of_steady ((State.Steady.refl s).fetchReturned _ word)

theorem faultRecordPlaced (s : State) : ∃ t, exec .faultRecordPlaced s = .next t ∧ s.Proceeds t := by
  refine ⟨_, rfl, ?_⟩
  split
  · exact of_steady (.ite (((State.Steady.refl s).onReader _).place _) (.refl s))
  · exact refl s

theorem holdRelease (s : State) : ∃ t, exec .holdRelease s = .next t ∧ s.Proceeds t := by
  refine ⟨_, rfl, ?_⟩
  split
  · exact of_steady (State.Steady.refl s).judgeHeld
  · exact refl s

theorem waitEnd (s : State) : ∃ t, exec .waitEnd s = .next t ∧ s.Proceeds t := by
  refine ⟨_, rfl, ?_⟩
  split
  · exact of_steady ((State.Steady.refl s).setReader _).resume
  · exact refl s

/-- Every command answers a next state, leaves the queue, and enters IDLE at rest. -/
theorem exec (s : State) (c : Instr) : ∃ t, exec c s = .next t ∧ s.Proceeds t := by
  have same := State.Steady.refl s
  cases c with
  | powerOnReset pins => exact ⟨_, rfl, rfl, fun _ => .inr (State.atRest_powerOn _)⟩
  | pcieLinkReset pins => exact ⟨_, rfl, rfl, fun _ => .inr (s.atRest_restart _)⟩
  | start => exact ⟨_, rfl, commandStart s⟩
  | stop => exact ⟨_, rfl, commandStop s⟩
  | reset => exact ⟨_, rfl, softReset s⟩
  | causeWrite v => exact ⟨_, rfl, writeRegister s 0x0C v⟩
  | enableWrite v => exact ⟨_, rfl, writeRegister s 0x10 v⟩
  | registerWrite offset width v =>
    cases width with
    | word => exact ⟨_, rfl, writeRegister s _ v⟩
    | byte => exact ⟨_, rfl, refl s⟩
    | half => exact ⟨_, rfl, refl s⟩
  | headerReadReturn header => exact headerReadReturn s header
  | busError a => exact ⟨_, rfl, ite (fun _ => busError s) fun _ => refl s⟩
  | readTimeout a => exact ⟨_, rfl, ite (fun _ => busError s) fun _ => refl s⟩
  | referencePulse order => exact ⟨_, rfl, of_steady (.ite (same.takePulse order) same)⟩
  | lossDeadlineExpiry order => exact ⟨_, rfl, of_steady (.ite (same.enterHoldover _ order) same)⟩
  | tickTimerExpiry order => exact tickTimerExpiry s order
  | holdoverLimitReached order => exact holdoverLimitReached s order
  | silenceExpiry e => exact ⟨_, rfl, of_steady (same.takeOwedSilence e)⟩
  | huntMarkFound e position mark => exact ⟨_, rfl, of_steady (same.unlessOff (.ite same.congr same) e _)⟩
  | verifyMark e position mark => exact ⟨_, rfl, of_steady (same.unlessOff (.ite same.congr same) e _)⟩
  | rowPosition e mark body => exact ⟨_, rfl, of_steady (same.unlessOff (same.rowAtPosition e mark body) e _)⟩
  | frameHead e head => exact ⟨_, rfl, of_steady (same.unlessOff (.ite (same.takeHead e head) same) e _)⟩
  | frameTail e tail => exact ⟨_, rfl, of_steady (same.unlessOff (.ite (same.takeTail e tail) same) e _)⟩
  | fillUnit e fill => exact ⟨_, rfl, of_steady (same.unlessOff (.ite same.congr same) e _)⟩
  | partnerWaitExpiry => exact ⟨_, rfl, of_steady (.ite same same.takeOwedTick)⟩
  | takeCloseCompletion => exact ⟨_, rfl, of_steady (.ite same.takeOwedTick same)⟩
  | sampleMessage port c framing => exact ⟨_, rfl, of_steady (.ite (.ite same.congr same) same)⟩
  | messageDeadlineExpiry port => exact ⟨_, rfl, of_steady (.ite same.congr same)⟩
  | measurementBegin => exact measurementBegin s
  | measurementDone => exact measurementEnd s
  | deliveryStart => exact deliveryStart s
  | copyCompletion writes => exact copyCompletion s writes
  | recordWriteAccepted => exact recordWriteAccepted s
  | consumedReadReturn v => exact ⟨_, rfl, of_steady (.ite (same.consumedReturned v) same)⟩
  | statusWriteAccepted => exact statusWriteAccepted s
  | drainingEndReached => exact ⟨_, rfl, of_steady (.ite (State.Steady.issueStatus (same.onWriter _) true) same)⟩
  | endOfDraining => exact endOfDraining s
  | cueFetchReturn word => exact cueFetchReturn s word
  | faultRecordPlaced => exact faultRecordPlaced s
  | holdRelease => exact holdRelease s
  | waitEnd => exact waitEnd s
  | sampleCharacter port c framing => exact ⟨_, rfl, of_steady (.ite same.congr same)⟩
  | configurationAccess msi busMaster => exact ⟨_, rfl, of_steady ⟨rfl, rfl⟩⟩
  -- every other command is a cue's
  | _ => exact ⟨_, rfl, of_steady (same.cueCommand _)⟩

end State.Proceeds

end Sys2Proof.Machine

open Sys2Proof Sys2Proof.Machine

/-- Settles O3: by the commands, each a sequence of operations that leave the queue. -/
theorem commandsAnswer : Obligations.CommandsAnswer := by
  unfold Obligations.CommandsAnswer
  intro c s
  obtain ⟨t, next, proceeds⟩ := State.Proceeds.exec s c
  exact ⟨t, next, proceeds.pending⟩

end

section
/-! SUPPORT. IDLE (R194): with the blocks at rest no command but START and a reset does more than count, note a cause or
let the Pace Generator go on. -/

namespace Sys2Proof.Machine

/-- IDLE with the blocks at rest, one field for each block. -/
structure State.Resting (s : State) : Prop where
  run : s.regs.run = .idle
  header : s.regs.headerRead = none
  store : (∀ x ∈ s.store.slots, x = .free) ∧ s.store.leftQueue = [] ∧ s.store.rightQueue = []
  receiver : ∀ e, (s.receiver e).atRest
  matcher : s.matcher.state = .stopped ∧ s.matcher.table = [] ∧ s.matcher.take = .closed
  reception : ∀ p, (s.port p).reception = .awaiting
  align : s.align.busy = none
  delivery : s.delivery.targets = [] ∧ s.delivery.copy = none
  writer : s.writer.state = .stopped ∧ s.writer.held = [] ∧ s.writer.reserved = 0
  accesses : s.writer.recordWrite = none ∧ s.writer.consumedRead = none ∧ s.writer.statusWrite = none
  reader : s.reader.state = .off ∧ s.reader.fetch = none

/-- The rest of IDLE is that of the statements. -/
theorem State.resting_iff (s : State) : s.Resting ↔ s.regs.run = .idle ∧ s.atRest := by
  constructor
  · intro h
    obtain ⟨slots, leftQueue, rightQueue⟩ := h.store
    obtain ⟨state, table, take⟩ := h.matcher
    obtain ⟨targets, copy⟩ := h.delivery
    obtain ⟨writer, held, reserved⟩ := h.writer
    obtain ⟨record, consumed, status⟩ := h.accesses
    obtain ⟨reader, fetch⟩ := h.reader
    exact ⟨h.run, slots, leftQueue, rightQueue, h.receiver .left, h.receiver .right, state, table, take,
      h.reception .leftLens, h.reception .rightLens, h.reception .rig, h.align, targets, copy, writer, held, reserved,
      record, consumed, status, reader, fetch, h.header⟩
  · rintro ⟨run, slots, leftQueue, rightQueue, left, right, state, table, take, leftLens, rightLens, rig, align,
      targets, copy, writer, held, reserved, record, consumed, status, reader, fetch, header⟩
    exact
      { run, header, align, store := ⟨slots, leftQueue, rightQueue⟩, matcher := ⟨state, table, take⟩
        delivery := ⟨targets, copy⟩, writer := ⟨writer, held, reserved⟩, accesses := ⟨record, consumed, status⟩
        reader := ⟨reader, fetch⟩
        receiver := fun e => by cases e <;> assumption
        reception := fun p => by cases p <;> assumption }

namespace State.Resting
variable {s t : State}

theorem idleSound (h : s.Resting) : s.idleSound := fun _ => (s.resting_iff.1 h).2

/-- A conditional effect. -/
theorem ite {p : Prop} [Decidable p] (yes : s.Resting) (no : t.Resting) : (if p then s else t).Resting := by
  split
  · exact yes
  · exact no

/-! ### What leaves the blocks at rest -/

theorem onPace (h : s.Resting) (f) : (s.onPace f).Resting := { h with }

theorem onRegs (h : s.Resting) {f : RegisterWindow → RegisterWindow} (run : (f s.regs).run = s.regs.run := by rfl)
    (header : (f s.regs).headerRead = s.regs.headerRead := by rfl) : (s.onRegs f).Resting :=
  { h with run := run.trans h.run, header := header.trans h.header }

theorem setIrq (h : s.Resting) (c e) : (s.setIrq c e).Resting := by
  have set := h.onRegs (f := fun r => { r with cause := c, enable := e })
  unfold State.setIrq
  exact ite { set with } set

theorem setCause (h : s.Resting) (c) : (s.setCause c).Resting := h.setIrq _ _

/-- A change of a receiver that leaves it at rest. -/
theorem onReceiver (h : s.Resting) (e : Eye) {f : Receiver → Receiver}
    (keeps : ∀ r : Receiver, r.atRest → (f r).atRest := by exact fun _ k => k) : (s.onReceiver e f).Resting where
  run := by simpa using h.run
  header := by simpa using h.header
  store := by simpa using h.store
  receiver d := by
    rw [State.onReceiver_receiver_eq]
    split
    · exact keeps _ (h.receiver e)
    · exact h.receiver d
  matcher := by simpa using h.matcher
  reception p := by
    have same : (s.onReceiver e f).port p = s.port p := by cases p <;> simp [State.port]
    rw [same]
    exact h.reception p
  align := by simpa using h.align
  delivery := by simpa using h.delivery
  writer := by simpa using h.writer
  accesses := by simpa using h.accesses
  reader := by simpa using h.reader

/-- A sample port ages its samples, and receives nothing (R86). -/
theorem ageSamples (h : s.Resting) (port) : (s.ageSamples port).Resting := by
  have kept : ∀ p, ((s.ageSamples port).port p).reception = (s.port p).reception := fun p => by
    cases port <;> cases p <;> rfl
  cases port <;> exact { h with reception := fun p => (kept p).trans (h.reception p) }

/-! ### A pace tick (R47) -/

theorem off (h : s.Resting) (e : Eye) : (s.receiver e).sync = .off := (h.receiver e).1

/-- A silence tick does nothing in OFF (R7). -/
theorem takeSilenceTick (h : s.Resting) (e) : (s.takeSilenceTick e).Resting := by
  unfold State.takeSilenceTick
  simp only [h.off e]
  exact h

theorem takeOwedSilence (h : s.Resting) (e) : (s.takeOwedSilence e).Resting :=
  ite ((h.onReceiver e).takeSilenceTick e) h

/-- The matcher takes no tick in STOPPED (R50). -/
theorem matcherTick (h : s.Resting) : s.matcherTick.Resting := by
  unfold State.matcherTick
  rw [if_pos h.matcher.1]
  exact h

theorem matcherTickLater (h : s.Resting) : s.matcherTickLater.Resting := by
  unfold State.matcherTickLater
  rw [if_pos h.matcher.1]
  exact h

/-- The reader counts no tick in OFF (R158). -/
theorem readerTick (h : s.Resting) : s.readerTick.Resting := by
  simp only [State.readerTick, h.reader.1, State.onReader, CueReader.reportTick]
  exact h

/-- The writer reads and writes nothing in IDLE (R128, R132). -/
theorem writerTick (h : s.Resting) : s.writerTick.statusTick.Resting := by
  have reads : s.writerTick = s := if_neg (by simp [h.run])
  unfold State.statusTick
  rw [reads, if_neg (by simp [h.run])]
  exact h

theorem observe (h : s.Resting) (o : TickObserver) : (s.observe o).Resting := by
  cases o with
  | linkReceiver e => exact (h.takeOwedSilence e).takeSilenceTick e
  | samplePort p => exact h.ageSamples p
  | pairMatcher => exact h.matcherTick
  | cueReader => exact h.readerTick
  | resultWriter => exact h.writerTick

theorem observeLater (h : s.Resting) (o : TickObserver) : (s.observeLater o).Resting := by
  cases o with
  | linkReceiver e => exact ite ((h.takeOwedSilence e).onReceiver e) ((h.takeOwedSilence e).takeSilenceTick e)
  | pairMatcher => exact h.matcherTickLater
  | samplePort p => exact h.observe (.samplePort p)
  | cueReader => exact h.observe .cueReader
  | resultWriter => exact h.observe .resultWriter

theorem tick (h : s.Resting) (order : List TickObserver) : (s.tick order).Resting :=
  List.foldlRecOn _ _ (List.foldlRecOn _ _ h fun _ k o _ => k.observe o) fun _ k o _ => k.observeLater o

/-! ### The Pace Generator, which goes on in IDLE (R49) -/

theorem enterHoldover (h : s.Resting) (base order) : (s.enterHoldover base order).Resting := by
  have begun := h.onPace PaceGenerator.beginHoldover
  unfold State.enterHoldover
  exact ite ((State.Resting.tick (ite ((begun.onPace _).setCause _) (begun.onPace _)) order).setCause _)
    ((begun.onPace _).setCause _)

theorem seekLock (h : s.Resting) (i order) : (s.seekLock i order).Resting :=
  ite ((((h.onPace _).onPace _).tick order).setCause _) (h.onPace _)

theorem takePulse (h : s.Resting) (order) : (s.takePulse order).Resting := by
  have noted := h.onPace fun g => { g with previousPulse := some s.now }
  unfold State.takePulse State.judgedPulse
  dsimp only
  split
  · exact noted
  · split
    · exact ite (((noted.onPace _).onPace _).tick order) ((noted.onPace _).enterHoldover _ order)
    all_goals exact (noted.onPace _).seekLock _ order

theorem timerTick (h : s.Resting) (timer order) : (s.timerTick timer order).Resting :=
  State.Resting.tick (ite ((h.onPace _).setCause _) (h.onPace _)) order

/-! ### Link commands, which find both receivers in OFF (R3) -/

theorem unlessOff (h : s.Resting) (e : Eye) {discarded : Receiver → Receiver} (effect : State)
    (keeps : ∀ r : Receiver, r.atRest → (discarded r).atRest := by exact fun _ k => k) :
    (s.unlessOff e discarded effect).Resting := by
  rw [State.unlessOff_off (h.off e)]
  exact h.onReceiver e keeps

/-! ### Commands whose event cannot occur in IDLE -/

/-- No access fails or times out: IDLE makes none (R196). -/
theorem not_failing (h : s.Resting) (a : Access) : s.canFail a = false ∧ s.timedOut a = false := by
  simp [State.canFail, State.timedOut, RegisterWindow.accesses, h.run]

/-- The reader is OFF, so no cue is executed (R158). -/
theorem cueCommand (h : s.Resting) (n : CueName) : s.cueCommand n = s := by
  unfold State.cueCommand
  rw [h.reader.1]

/-- A port takes no character in IDLE (R81). -/
theorem takeCharacter (h : s.Resting) (port c framing) : s.takeCharacter port c framing = s :=
  if_neg (by rw [h.run]; decide)

theorem not_overdue (h : s.Resting) (port : PortId) : ¬ (s.port port).overdue s.now = true := by
  simp [SamplePort.overdue, h.reception port]

/-! ### The Register Window -/

/-- START leaves IDLE (R190, R191). -/
theorem commandStart (h : s.Resting) : s.commandStart.idleSound := by
  have leaves : s.commandStart.regs.run ≠ .idle := by
    unfold State.commandStart
    rw [h.run]
    unfold State.acceptStart State.halt
    dsimp only
    split <;> simp
  exact fun idle => absurd idle leaves

/-- STOP is refused in IDLE (R193). -/
theorem commandStop (h : s.Resting) : s.commandStop.Resting := by
  unfold State.commandStop
  rw [h.run]
  exact h.onRegs

theorem writeRegister (h : s.Resting) (offset v) : (s.writeRegister offset v).idleSound := by
  unfold State.writeRegister
  split
  · unfold State.writeControl
    split
    · exact h.commandStart
    · exact h.commandStop.idleSound
    · exact fun _ => s.atRest_softReset
    · exact h.idleSound
  · exact (h.setIrq _ _).idleSound
  · exact (h.setIrq _ _).idleSound
  · exact h.onRegs.idleSound
  · exact h.onRegs.idleSound
  · exact h.idleSound

/-- From IDLE at rest, every command answers a state that is at rest where it is IDLE. -/
theorem exec (h : s.Resting) (c : Instr) : ∃ t, exec c s = .next t ∧ t.idleSound := by
  have nothing : ∀ {c : Instr}, Machine.exec c s = .next s → ∃ t, Machine.exec c s = .next t ∧ t.idleSound :=
    fun answer => ⟨s, answer, h.idleSound⟩
  cases c with
  | powerOnReset pins => exact ⟨_, rfl, fun _ => State.atRest_powerOn _⟩
  | pcieLinkReset pins => exact ⟨_, rfl, fun _ => s.atRest_restart _⟩
  | start => exact ⟨_, rfl, h.commandStart⟩
  | stop => exact ⟨_, rfl, h.commandStop.idleSound⟩
  | reset => exact ⟨_, rfl, fun _ => s.atRest_softReset⟩
  | causeWrite v => exact ⟨_, rfl, (h.setIrq _ _).idleSound⟩
  | enableWrite v => exact ⟨_, rfl, (h.setIrq _ _).idleSound⟩
  | registerWrite offset width v =>
    cases width with
    | word => exact ⟨_, rfl, h.writeRegister _ v⟩
    | byte => exact nothing rfl
    | half => exact nothing rfl
  | configurationAccess msi busMaster => exact ⟨_, rfl, h.onRegs.idleSound⟩
  | referencePulse order => exact ⟨_, rfl, (ite (h.takePulse order) h).idleSound⟩
  | lossDeadlineExpiry order => exact ⟨_, rfl, (ite (h.enterHoldover _ order) h).idleSound⟩
  | tickTimerExpiry order =>
    refine ⟨_, rfl, State.Resting.idleSound ?_⟩
    split
    · exact h
    · exact h.timerTick _ order
  | holdoverLimitReached order =>
    refine ⟨_, rfl, State.Resting.idleSound ?_⟩
    split
    · exact h
    · exact ite (h.timerTick _ order) h
  | silenceExpiry e => exact ⟨_, rfl, (h.takeOwedSilence e).idleSound⟩
  | huntMarkFound e position mark => exact ⟨_, rfl, (h.unlessOff e _).idleSound⟩
  | verifyMark e position mark => exact ⟨_, rfl, (h.unlessOff e _).idleSound⟩
  | rowPosition e mark body => exact ⟨_, rfl, (h.unlessOff e _).idleSound⟩
  | frameHead e head => exact ⟨_, rfl, (h.unlessOff e _).idleSound⟩
  | frameTail e tail => exact ⟨_, rfl, (h.unlessOff e _).idleSound⟩
  | fillUnit e fill => exact ⟨_, rfl, (h.unlessOff e _).idleSound⟩
  | headerReadReturn header => exact nothing (by simp only [Machine.exec, execHeaderReadReturn, h.header])
  | busError a => exact nothing (by simp [Machine.exec, execBusError, h.not_failing a])
  | readTimeout a => exact nothing (by simp [Machine.exec, execReadTimeout, h.not_failing a])
  | partnerWaitExpiry => exact nothing (congrArg Host.Outcome.next (if_pos h.matcher.1))
  | takeCloseCompletion => exact nothing (congrArg Host.Outcome.next (if_neg fun closes => closes.1 h.matcher.1))
  | sampleMessage port c framing =>
    exact nothing (by simp only [Machine.exec, execSampleMessage, h.takeCharacter, ite_self])
  | sampleCharacter port c framing => exact nothing (congrArg Host.Outcome.next (h.takeCharacter port c framing))
  | messageDeadlineExpiry port => exact nothing (congrArg Host.Outcome.next (if_neg (h.not_overdue port)))
  | measurementBegin => exact nothing (congrArg Host.Outcome.next (if_neg (by
      simp [State.canMeasure, RegisterWindow.measures, h.run])))
  | measurementDone => exact nothing (by simp only [Machine.exec, execMeasurementDone, h.align])
  | deliveryStart => exact nothing (congrArg Host.Outcome.next (if_neg (by simp [State.canDeliver, h.run])))
  | copyCompletion writes => exact nothing (by simp only [Machine.exec, execCopyCompletion, h.delivery.2])
  | recordWriteAccepted => exact nothing (by simp only [Machine.exec, execRecordWriteAccepted, h.accesses.1])
  | consumedReadReturn v => exact nothing (by simp [Machine.exec, execConsumedReadReturn, h.accesses.2.1])
  | statusWriteAccepted => exact nothing (by simp only [Machine.exec, execStatusWriteAccepted, h.accesses.2.2])
  | drainingEndReached => exact nothing (congrArg Host.Outcome.next (if_neg (by simp [State.drained, h.run])))
  | endOfDraining => exact nothing (congrArg Host.Outcome.next (if_neg (by rw [h.run]; decide)))
  | cueFetchReturn word => exact nothing (by simp only [Machine.exec, execCueFetchReturn, h.reader.2])
  | faultRecordPlaced => exact nothing (by simp only [Machine.exec, execFaultRecordPlaced, h.reader.1])
  | holdRelease => exact nothing (by simp only [Machine.exec, execHoldRelease, h.reader.1])
  | waitEnd => exact nothing (by simp only [Machine.exec, execWaitEnd, h.reader.1])
  -- every other command is a cue's
  | _ => exact nothing (congrArg Host.Outcome.next (h.cueCommand _))

end State.Resting

/-- The part's own event joins the queue, or a microsecond passes: the blocks stay. -/
theorem State.idle_idleSound {s : State} (h : s.idleSound) : s.idle.idleSound := by
  unfold State.idle
  split <;> exact h

theorem State.exec_idleSound {s : State} (h : s.idleSound) (c : Instr) : ∃ t, exec c s = .next t ∧ t.idleSound := by
  by_cases run : s.regs.run = .idle
  · exact (s.resting_iff.2 ⟨run, h run⟩).exec c
  · obtain ⟨t, next, proceeds⟩ := State.Proceeds.exec s c
    exact ⟨t, next, fun idle => (proceeds.enters idle).resolve_left run⟩

end Sys2Proof.Machine

open Sys2Proof Sys2Proof.Machine

/-- Settles O59: IDLE is entered at rest, by the resets and the end of DRAINING alone, and in IDLE no command moves a
block but the Pace Generator. -/
theorem stepKeepsIdle : Obligations.StepKeepsIdle := by
  unfold Obligations.StepKeepsIdle
  intro s t sound answer
  unfold step at answer
  split at answer
  · cases answer
    exact State.idle_idleSound sound
  · next c rest _ =>
    obtain ⟨u, next, kept⟩ := State.exec_idleSound (s := { s with pending := rest }) sound c
    rw [next] at answer
    cases answer
    exact kept

end

section
/-! The machine after reset satisfies what every step keeps (R194, R199). -/

open Sys2Proof Sys2Proof.Machine

/-- Settles O60: each invariant by what a power-on reset leaves, the ownership of the slots by there being no claim. -/
theorem resetIsSound : Obligations.ResetIsSound := by
  unfold Obligations.ResetIsSound
  obtain ⟨places, room, buffer⟩ := State.reset.bounded_iff.1 (State.Bounded.powerOn Straps.shown)
  obtain ⟨settings, tracker⟩ := State.reset.tuned_iff.1 (State.Tuned.anew Straps.shown rfl rfl rfl)
  have cleared : State.reset.Cleared State.reset :=
    { slots := ⟨_, rfl, .inl rfl⟩, queue := fun e => by cases e <;> rfl, mem := .inl rfl, table := rfl
      filling := fun e => by cases e <;> rfl }
  have pool : State.reset.poolSound := ⟨List.length_replicate, Nat.zero_le 8, Nat.zero_le 8, nofun, nofun⟩
  exact ⟨Memory.wf_reset, places, room, buffer, pool, State.reset.slotsSound_iff.2 (State.Owned.clear cleared),
    settings, tracker, State.paceSound_reset rfl, fun _ => State.atRest_powerOn Straps.shown⟩

end

section
/-! SUPPORT. The resets and START (R188 to R191, R199). -/

namespace Sys2Proof.Machine

/-- The Bus Port's list goes on through a reset: the writes abandoned join it (log 19, log 28). -/
theorem State.abandoned_prefix (s : State) : s.carried <+: s.abandoned := by
  unfold State.abandoned
  split
  · exact List.prefix_refl _
  · exact List.prefix_append _ _

theorem State.powerOn_startsAnew (s : State) (p : Straps) :
    StartsAnew { State.powerOn p with pending := s.pending } p where
  straps := rfl
  settings := rfl
  run := rfl
  halt := rfl
  cause := rfl
  enable := rfl
  headerRead := rfl
  slots := rfl
  queues := ⟨rfl, rfl⟩
  flushed := rfl
  pace := rfl
  matcher := rfl
  ports := ⟨rfl, rfl, rfl⟩
  align := rfl
  delivery := rfl
  writer := rfl
  reader := rfl

/-- A reset that keeps slot memory leaves of the blocks what a power-on reset does (R199). -/
theorem State.restart_startsAnew (s : State) (p : Straps) : StartsAnew (s.restart p) p :=
  { s.powerOn_startsAnew p with }

theorem State.softReset_startsAnew (s : State) : StartsAnew s.softReset s.straps :=
  { s.powerOn_startsAnew s.straps with }

/-! ### HALTED and the exchange address -/

theorem exchangeValid_iff (a : BitVec 64) : exchangeValid a = true ↔ a ≠ 0#64 ∧ a.toNat % 64 = 0 := by
  simp [exchangeValid]

/-- HALTED with a reason: the register window and the Bus Port's list change alone (R191, R196, R197). -/
theorem State.halt_onlyRegisters (s : State) (reason : HaltReason) : OnlyRegisters s (s.halt reason) := by
  unfold State.halt
  constructor
  · constructor <;> simp
  · simp

theorem State.halt_regs (s : State) (reason : HaltReason) : (s.halt reason).regs =
    { s.regs with run := .halted, halt := reason, cause := s.regs.cause ||| 0x100#9 } := by
  unfold State.halt
  rw [State.setCause_regs]
  rfl

theorem OnlyRegisters.of_onRegs {s t : State} {f : RegisterWindow → RegisterWindow}
    (h : OnlyRegisters (s.onRegs f) t) : OnlyRegisters s t := { h with }

theorem exec_start_accepts {s : State} (run : s.regs.run = .idle ∨ s.regs.run = .halted) :
    exec .start s = .next s.acceptStart := by
  rcases run with run | run <;> simp only [exec, execStart, State.commandStart, run]

theorem exec_start_refuses {s : State}
    (run : s.regs.run = .starting ∨ s.regs.run = .running ∨ s.regs.run = .draining) :
    exec .start s = .next s.refuse := by
  rcases run with run | run | run <;> simp only [exec, execStart, State.commandStart, run]

end Sys2Proof.Machine

open Sys2Proof Sys2Proof.Machine

/-- Settles O5: a power-on reset leaves what every reset does, and the other two keep what is written out. -/
theorem resetsRestart : Obligations.ResetsRestart := by
  unfold Obligations.ResetsRestart
  refine ⟨fun _ _ => ⟨rfl, rfl, rfl, rfl⟩, fun pins s => ⟨?_, ?_, ?_⟩⟩
  · exact ⟨_, rfl, s.powerOn_startsAnew _, rfl, rfl, rfl, rfl, rfl, rfl, rfl, rfl, rfl⟩
  · exact ⟨_, rfl, s.restart_startsAnew _, rfl, rfl, rfl, rfl, rfl, rfl, rfl, s.abandoned_prefix, rfl, rfl⟩
  · exact ⟨_, rfl, s.softReset_startsAnew, rfl, rfl, rfl, rfl, rfl, rfl, rfl, s.abandoned_prefix, rfl, rfl⟩

/-- Settles O6: START is accepted in IDLE and HALTED, and then the exchange address decides. -/
theorem startBegins : Obligations.StartBegins := by
  unfold Obligations.StartBegins
  intro s address begun
  refine ⟨fun run nonzero aligned => ?_, fun run bad => ?_, exec_start_refuses⟩
  · rw [exec_start_accepts run]
    exact congrArg Host.Outcome.next (if_pos ((exchangeValid_iff address).2 ⟨nonzero, aligned⟩))
  · have refused : ¬ exchangeValid s.regs.exchange = true := fun valid => by
      obtain ⟨nonzero, aligned⟩ := (exchangeValid_iff address).1 valid
      exact bad.elim nonzero (absurd aligned)
    rw [exec_start_accepts run]
    refine ⟨_, congrArg Host.Outcome.next (if_neg refused), ?_, State.halt_regs _ _⟩
    exact (State.halt_onlyRegisters _ _).of_onRegs

end

section
/-! SUPPORT. STOP (R10, R50, R82, R104, R158, R193): a receiver goes OFF with the matcher STOPPED, so that its departure
ends in no pass and no close check (log 20). -/

namespace Sys2Proof.Machine

/-! ### What goes back to the store -/

/-- The slot that a receiver gives back as it leaves FRAME_LOCK (R11, R26). -/
def Receiver.givesBack (r : Receiver) : Option Nat := if r.sync = .frameLock then r.filling.map (·.slot) else none

theorem Receiver.givesBack_eq_some {r : Receiver} {n : Nat} : r.givesBack = some n ↔
    ∃ f, r.sync = .frameLock ∧ r.filling = some f ∧ f.slot = n := by
  unfold Receiver.givesBack
  split
  · next sync => simp [sync]
  · next sync => simp [sync]

/-- The store after a slot given back. -/
def FrameStore.takeBack (f : FrameStore) : Option Nat → FrameStore
  | none => f
  | some n => f.cut n

section
variable (f : FrameStore) (given : Option Nat)

theorem FrameStore.takeBack_slot (m : Nat) : (f.takeBack given).slot m =
    if given = some m ∧ (f.slot m).isFilling = true then .free else f.slot m := by
  cases given with
  | none => exact (if_neg (by rintro ⟨⟨⟩, -⟩)).symm
  | some n =>
    rw [FrameStore.takeBack, FrameStore.cut, f.freeIf_slot]
    exact if_congr (and_congr_left' (eq_comm.trans (Option.some_inj).symm)) rfl rfl

/-- A slot given back changes no queue, no count of frames flushed, no slot memory. -/
theorem FrameStore.takeBack_keeps : (f.takeBack given).leftQueue = f.leftQueue ∧
    (f.takeBack given).rightQueue = f.rightQueue ∧ (f.takeBack given).flushed = f.flushed ∧
    (f.takeBack given).mem = f.mem := by
  cases given with
  | none => exact ⟨rfl, rfl, rfl, rfl⟩
  | some n =>
    unfold FrameStore.takeBack FrameStore.cut FrameStore.freeIf
    dsimp only
    split <;> exact ⟨rfl, rfl, rfl, rfl⟩

end

/-! ### The receiver that goes OFF (R10) -/

section
variable {r : Receiver}

theorem Receiver.linked_false_of_off (sync : r.sync = .off) : r.linked false = r := if_pos sync

theorem Receiver.linked_false_of_frameLock (sync : r.sync = .frameLock) : r.linked false = r.afterCut.enterOff := by
  unfold Receiver.linked
  rw [if_neg (by rw [sync]; decide), if_neg (by decide), if_pos sync]

theorem Receiver.linked_false_of_other (on : r.sync ≠ .off) (out : r.sync ≠ .frameLock) :
    r.linked false = r.enterOff := by
  unfold Receiver.linked
  rw [if_neg on, if_neg (by decide), if_neg out]

end

/-! ### A receiver OFF, with the matcher STOPPED -/

/-- One eye's receiver OFF, and its slot given back. -/
def State.withdrawn (s : State) (e : Eye) : State :=
  (s.onStore (·.takeBack (s.receiver e).givesBack)).onReceiver e (·.linked false)

section
variable {s : State} {e : Eye}

/-- A STOPPED matcher hears of no departure, and makes no pass (R50). -/
theorem State.tellLeft_of_stopped (stopped : s.matcher.state = .stopped) : s.tellLeft = s := by
  have deaf : s.onMatcher PairMatcher.leftLock = s := by
    unfold State.onMatcher PairMatcher.leftLock
    rw [if_neg (by rw [stopped]; decide)]
  rw [State.tellLeft, deaf]
  exact State.pass_stopped stopped

theorem State.closeCheck_of_stopped (stopped : s.matcher.state = .stopped) : s.closeCheck = s :=
  if_neg fun checks => checks.1 stopped

theorem State.cutFilling_of_stopped (stopped : s.matcher.state = .stopped) (sync : (s.receiver e).sync = .frameLock) :
    s.cutFilling e = (s.onStore (·.takeBack (s.receiver e).givesBack)).onReceiver e Receiver.afterCut := by
  unfold State.cutFilling Receiver.givesBack
  rw [if_pos sync]
  split
  · next empty =>
    rw [empty]
    exact (State.onReceiver_self (Receiver.afterCut_of_not_filling empty)).symm
  · next f filling =>
    rw [State.closeCheck_of_stopped (by simpa using stopped), filling]
    exact State.onReceiver_congr (by simp [Receiver.count, Receiver.afterCut, filling])

/-- With the matcher STOPPED a receiver goes OFF, with LINK where it leaves FRAME_LOCK, and nothing follows. -/
theorem State.linkOff_of_stopped (stopped : s.matcher.state = .stopped) : s.linkOff e =
    if (s.receiver e).sync = .frameLock then (s.withdrawn e).setCause .link else s.withdrawn e := by
  by_cases locked : (s.receiver e).sync = .frameLock
  · have on : (s.receiver e).sync ≠ .off := by rw [locked]; decide
    unfold State.linkOff State.changeSync State.withdrawn
    rw [if_neg on, if_pos locked, if_pos locked, State.cutFilling_of_stopped stopped locked,
      State.onReceiver_onReceiver, State.tellLeft_of_stopped (by simpa using stopped)]
    refine congrArg (State.setCause · .link) (State.onReceiver_congr ?_)
    rw [State.onStore_receiver, Receiver.linked_false_of_frameLock locked]
  · have nothing : (s.receiver e).givesBack = none := if_neg locked
    rw [if_neg locked, State.withdrawn, nothing]
    by_cases off : (s.receiver e).sync = .off
    · unfold State.linkOff
      rw [if_pos off]
      exact (State.onReceiver_self (Receiver.linked_false_of_off off)).symm
    · unfold State.linkOff
      rw [if_neg off, State.changeSync_stays locked]
      exact State.onReceiver_congr (Receiver.linked_false_of_other off locked).symm

end

/-- What one receiver's way to OFF leaves, with the matcher STOPPED. -/
structure State.GoesOff (e : Eye) (s t : State) : Prop where
  receiver : t.receiver e = (s.receiver e).linked false
  other : t.receiver (otherEye e) = s.receiver (otherEye e)
  store : t.store = s.store.takeBack (s.receiver e).givesBack
  regs : t.regs = { s.regs with
    cause := if (s.receiver e).sync = .frameLock then s.regs.cause ||| Cause.link.bit else s.regs.cause }
  matcher : t.matcher = s.matcher
  align : t.align = s.align
  writer : t.writer = s.writer
  reader : t.reader = s.reader

theorem State.linkOff_goesOff {s : State} (stopped : s.matcher.state = .stopped) (e : Eye) :
    s.GoesOff e (s.linkOff e) := by
  rw [State.linkOff_of_stopped stopped]
  unfold State.withdrawn
  split
  · next locked => constructor <;> simp [locked]
  · next out => constructor <;> simp [out]

/-- Both receivers OFF, LEFT first (R193, log 20). -/
def State.bothOff (s : State) : State := (s.linkOff .left).linkOff .right

section
variable {s : State} (stopped : s.matcher.state = .stopped)
include stopped

theorem State.goesOff_right : (s.linkOff .left).GoesOff .right s.bothOff :=
  State.linkOff_goesOff (by rw [(State.linkOff_goesOff stopped .left).matcher]; exact stopped) .right

theorem State.bothOff_receiver (e : Eye) : s.bothOff.receiver e = (s.receiver e).linked false := by
  have left := State.linkOff_goesOff stopped .left
  have right := State.goesOff_right stopped
  cases e with
  | left => exact right.other.trans left.receiver
  | right => exact right.receiver.trans (congrArg (Receiver.linked · false) left.other)

theorem State.bothOff_store :
    s.bothOff.store = (s.store.takeBack s.left.givesBack).takeBack s.right.givesBack := by
  have left := State.linkOff_goesOff stopped .left
  have same : (s.linkOff .left).receiver .right = s.right := left.other
  rw [(State.goesOff_right stopped).store, same, left.store]
  rfl

/-- A slot goes FREE where a receiver gives it back and it is FILLING, and stays otherwise. -/
theorem State.bothOff_slot (n : Nat) : s.bothOff.store.slot n =
    if (s.left.givesBack = some n ∨ s.right.givesBack = some n) ∧ (s.store.slot n).isFilling = true then .free
    else s.store.slot n := by
  rw [State.bothOff_store stopped, FrameStore.takeBack_slot, FrameStore.takeBack_slot]
  by_cases left : s.left.givesBack = some n ∧ (s.store.slot n).isFilling = true
  · rw [if_pos left, ite_self, if_pos ⟨.inl left.1, left.2⟩]
  · rw [if_neg left]
    refine if_congr ?_ rfl rfl
    tauto

theorem State.bothOff_regs : s.bothOff.regs = { s.regs with
    cause := if s.left.sync = .frameLock ∨ s.right.sync = .frameLock then s.regs.cause ||| Cause.link.bit
      else s.regs.cause } := by
  have left := State.linkOff_goesOff stopped .left
  have same : (s.linkOff .left).receiver .right = s.right := left.other
  have own : s.receiver .left = s.left := rfl
  rw [(State.goesOff_right stopped).regs, left.regs, same, own]
  by_cases l : s.left.sync = .frameLock <;> by_cases r : s.right.sync = .frameLock <;>
    simp [l, r, BitVec.or_assoc]

theorem State.bothOff_keeps : s.bothOff.matcher = s.matcher ∧ s.bothOff.align = s.align ∧
    s.bothOff.writer = s.writer ∧ s.bothOff.reader = s.reader := by
  have left := State.linkOff_goesOff stopped .left
  have right := State.goesOff_right stopped
  exact ⟨right.matcher.trans left.matcher, right.align.trans left.align, right.writer.trans left.writer,
    right.reader.trans left.reader⟩

end

/-- What stays as both receivers go OFF, whatever the matcher's state. -/
theorem State.bothOff_stays (s : State) : s.bothOff.leftLens = s.leftLens ∧ s.bothOff.rightLens = s.rightLens ∧
    s.bothOff.rig = s.rig ∧ s.bothOff.delivery = s.delivery ∧ s.bothOff.pace = s.pace ∧
    s.bothOff.settings = s.settings ∧ s.bothOff.straps = s.straps := by
  simp [State.bothOff]

/-! ### The command -/

/-- The run state and the matcher at STOP, before the receivers. -/
def State.stopping (s : State) : State :=
  (s.onRegs fun r =>
    { r with outcome := .accepted, run := .draining, drainedStarting := r.run == .starting }).onMatcher fun m =>
      { m with state := .stopped, tickOwed := false }

/-- The ports, the Alignment Unit and the reader at STOP, after the receivers. -/
def State.stopOthers (s : State) : State :=
  (s.dropPartials.onAlign fun a => { a with busy := none, looking := false }).setReader .off

theorem State.stopping_receiver (s : State) (e : Eye) : s.stopping.receiver e = s.receiver e := by
  cases e <;> rfl

theorem State.stopping_stopped (s : State) : s.stopping.matcher.state = .stopped := rfl

theorem State.stopOthers_receiver (s : State) (e : Eye) : s.stopOthers.receiver e = s.receiver e := by
  cases e <;> rfl

theorem State.stopOthers_eq (s : State) : s.stopOthers = { s with
    leftLens := s.leftLens.dropPartial, rightLens := s.rightLens.dropPartial, rig := s.rig.dropPartial
    align := { s.align with busy := none, looking := false }
    reader := { s.reader with state := .off } } := rfl

theorem State.acceptStop_eq (s : State) : s.acceptStop = s.stopping.bothOff.stopOthers := by
  unfold State.acceptStop State.stopActions State.stopOthers State.bothOff State.stopping
  rfl

section
variable (s : State)

theorem State.acceptStop_receiver (e : Eye) : s.acceptStop.receiver e = (s.receiver e).linked false := by
  rw [State.acceptStop_eq, State.stopOthers_receiver, State.bothOff_receiver s.stopping_stopped,
    State.stopping_receiver]

theorem State.acceptStop_regs : s.acceptStop.regs = { s.regs with
    outcome := .accepted, run := .draining, drainedStarting := s.regs.run == .starting
    cause := if s.left.sync = .frameLock ∨ s.right.sync = .frameLock then s.regs.cause ||| Cause.link.bit
      else s.regs.cause } := by
  rw [State.acceptStop_eq, State.stopOthers_eq]
  exact State.bothOff_regs s.stopping_stopped

theorem State.acceptStop_store :
    s.acceptStop.store = (s.store.takeBack s.left.givesBack).takeBack s.right.givesBack := by
  rw [State.acceptStop_eq, State.stopOthers_eq]
  exact State.bothOff_store s.stopping_stopped

theorem State.acceptStop_slot (n : Nat) : s.acceptStop.store.slot n =
    if (s.left.givesBack = some n ∨ s.right.givesBack = some n) ∧ (s.store.slot n).isFilling = true then .free
    else s.store.slot n := by
  rw [State.acceptStop_eq, State.stopOthers_eq]
  exact State.bothOff_slot s.stopping_stopped n

/-- A slot that no receiver in FRAME_LOCK fills stays. -/
theorem State.acceptStop_slot_other {n : Nat}
    (other : ∀ e f, (s.receiver e).sync = .frameLock → (s.receiver e).filling = some f → f.slot ≠ n) :
    s.acceptStop.store.slot n = s.store.slot n := by
  have apart : ∀ e, (s.receiver e).givesBack ≠ some n := fun e gives => by
    obtain ⟨f, sync, filling, here⟩ := Receiver.givesBack_eq_some.mp gives
    exact other e f sync filling here
  rw [State.acceptStop_slot]
  exact if_neg fun given => given.1.elim (apart .left) (apart .right)

/-- The FILLING slot of a receiver in FRAME_LOCK goes FREE. -/
theorem State.acceptStop_slot_cut {e : Eye} {f : Filling} (sync : (s.receiver e).sync = .frameLock)
    (filling : (s.receiver e).filling = some f) (isFilling : (s.store.slot f.slot).isFilling = true) :
    s.acceptStop.store.slot f.slot = .free := by
  have gives : (s.receiver e).givesBack = some f.slot := Receiver.givesBack_eq_some.mpr ⟨f, sync, filling, rfl⟩
  rw [State.acceptStop_slot]
  cases e
  · exact if_pos ⟨.inl gives, isFilling⟩
  · exact if_pos ⟨.inr gives, isFilling⟩

theorem State.acceptStop_blocks : s.acceptStop.matcher = { s.matcher with state := .stopped, tickOwed := false } ∧
    s.acceptStop.leftLens = s.leftLens.dropPartial ∧ s.acceptStop.rightLens = s.rightLens.dropPartial ∧
    s.acceptStop.rig = s.rig.dropPartial ∧
    s.acceptStop.align = { s.align with busy := none, looking := false } ∧
    s.acceptStop.reader = { s.reader with state := .off } := by
  obtain ⟨matcher, align, -, reader⟩ := State.bothOff_keeps s.stopping_stopped
  obtain ⟨leftLens, rightLens, rig, -⟩ := s.stopping.bothOff_stays
  rw [State.acceptStop_eq, State.stopOthers_eq]
  dsimp only
  rw [matcher, align, reader, leftLens, rightLens, rig]
  simp [State.stopping]

theorem State.acceptStop_stays : s.acceptStop.delivery = s.delivery ∧ s.acceptStop.writer = s.writer ∧
    s.acceptStop.pace = s.pace ∧ s.acceptStop.settings = s.settings ∧ s.acceptStop.straps = s.straps := by
  obtain ⟨-, -, writer, -⟩ := State.bothOff_keeps s.stopping_stopped
  obtain ⟨-, -, -, delivery, pace, settings, straps⟩ := s.stopping.bothOff_stays
  rw [State.acceptStop_eq, State.stopOthers_eq]
  dsimp only
  rw [delivery, writer, pace, settings, straps]
  simp [State.stopping]

theorem State.acceptStop_storeKeeps : s.acceptStop.store.leftQueue = s.store.leftQueue ∧
    s.acceptStop.store.rightQueue = s.store.rightQueue ∧ s.acceptStop.store.flushed = s.store.flushed ∧
    s.acceptStop.store.mem = s.store.mem := by
  obtain ⟨left₁, right₁, flushed₁, mem₁⟩ := FrameStore.takeBack_keeps s.store s.left.givesBack
  obtain ⟨left₂, right₂, flushed₂, mem₂⟩ :=
    FrameStore.takeBack_keeps (s.store.takeBack s.left.givesBack) s.right.givesBack
  rw [State.acceptStop_store]
  exact ⟨left₂.trans left₁, right₂.trans right₁, flushed₂.trans flushed₁, mem₂.trans mem₁⟩

end

theorem exec_stop_accepts {s : State} (run : s.regs.run = .starting ∨ s.regs.run = .running) :
    exec .stop s = .next s.acceptStop := by
  rcases run with run | run <;> simp only [exec, execStop, State.commandStop, run]

theorem exec_stop_refuses {s : State} (run : s.regs.run = .idle ∨ s.regs.run = .draining ∨ s.regs.run = .halted) :
    exec .stop s = .next s.refuse := by
  rcases run with run | run | run <;> simp only [exec, execStop, State.commandStop, run]

end Sys2Proof.Machine

open Sys2Proof Sys2Proof.Machine

/-- Settles O7: the matcher stops first, so that each receiver goes OFF alone. -/
theorem stopDrains : Obligations.StopDrains := by
  unfold Obligations.StopDrains
  intro s
  refine ⟨fun run => ⟨_, exec_stop_accepts run, ?_⟩, exec_stop_refuses⟩
  have receiver := s.acceptStop_receiver
  have regs := s.acceptStop_regs
  have slot := s.acceptStop_slot
  have slot_other := fun n => s.acceptStop_slot_other (n := n)
  have slot_cut := fun e f => s.acceptStop_slot_cut (e := e) (f := f)
  obtain ⟨matcher, leftLens, rightLens, rig, align, reader⟩ := s.acceptStop_blocks
  obtain ⟨delivery, writer, pace, settings, straps⟩ := s.acceptStop_stays
  obtain ⟨leftQueue, rightQueue, flushed, mem⟩ := s.acceptStop_storeKeeps
  generalize s.acceptStop = t at *
  have kept {α : Type} (f : RegisterWindow → α) : f t.regs = f _ := congrArg f regs
  refine ⟨kept (·.run), kept (·.drainedStarting), kept (·.outcome), kept (·.halt), kept (·.enable), kept (·.headerRead),
    kept (·.bases), kept (·.cause),
    fun e => ⟨?_, fun sync => ?_, fun sync => ?_, fun sync => ?_, slot_cut e⟩,
    fun n other => ?_, slot_other, matcher, leftLens, rightLens, rig, align, reader, delivery, writer, pace, settings,
    straps, leftQueue, rightQueue, flushed, mem⟩
  · rw [receiver, Receiver.linked_false_sync]
  · rw [receiver, Receiver.linked_false_of_off sync]
  · have on : (s.receiver e).sync ≠ .off ∧ (s.receiver e).sync ≠ .frameLock := by
      rcases sync with sync | sync | sync <;> rw [sync] <;> decide
    exact (receiver e).trans (Receiver.linked_false_of_other on.1 on.2)
  · rw [receiver, Receiver.linked_false_of_frameLock sync]
    rfl
  · exact (slot n).trans (if_neg fun given => absurd given.2 (ne_true_of_eq_false other))

end

section
/-! SUPPORT. The register window (R187 to R189, R197 to R199): the interrupt request and its messages, the writes and
the reads. -/

namespace Sys2Proof.Machine

/-! ### The interrupt request (R198) -/

theorem RegisterWindow.request_iff {r : RegisterWindow} : r.request = true ↔ r.cause &&& r.enable ≠ 0#9 :=
  bne_iff_ne

theorem RegisterWindow.request_false_iff {r : RegisterWindow} : r.request = false ↔ r.cause &&& r.enable = 0#9 :=
  bne_eq_false_iff_eq

section
variable (s : State) (cause enable : BitVec 9)

/-- A change of CAUSE and ENABLE asserts the request, and sends a message for it (R198, R199). -/
def State.IrqSends : Prop := s.regs.request = false ∧ cause &&& enable ≠ 0#9 ∧ s.regs.msiEnable = true ∧
  s.regs.busMaster = true

theorem State.setIrq_sends (sends : s.IrqSends cause enable) : s.setIrq cause enable =
    { s with regs := { s.regs with cause := cause, enable := enable }, carried := s.carried ++ [.msi] } := by
  obtain ⟨before, after, msi, master⟩ := sends
  have after' : (cause &&& enable != 0#9) = true := bne_iff_ne.mpr after
  refine if_pos ?_
  simp [RegisterWindow.request, State.onRegs] at before ⊢
  exact ⟨⟨⟨before, after⟩, msi⟩, master⟩

theorem State.setIrq_silent (silent : ¬ s.IrqSends cause enable) : s.setIrq cause enable =
    { s with regs := { s.regs with cause := cause, enable := enable } } := by
  refine if_neg fun sends => silent ?_
  simp [RegisterWindow.request, State.onRegs] at sends
  obtain ⟨⟨⟨before, after⟩, msi⟩, master⟩ := sends
  exact ⟨RegisterWindow.request_false_iff.mpr before, after, msi, master⟩

end

/-- A cause set while the request is asserted sends no message (R198). -/
theorem State.setCause_carried_of_request {s : State} (asserted : s.regs.request = true) (c : Cause) :
    (s.setCause c).carried = s.carried := by
  rw [State.setCause, State.setIrq_silent s _ _ fun sends => absurd (asserted.symm.trans sends.1) (by decide)]

/-- Bits cleared in CAUSE assert nothing (R187, R198). -/
theorem State.writeCause_eq (s : State) (v : BitVec 32) : s.writeCause v =
    { s with regs := { s.regs with cause := s.regs.cause &&& ~~~(v.setWidth 9) } } := by
  refine State.setIrq_silent s _ _ fun sends => sends.2.1 ?_
  rw [BitVec.and_assoc, BitVec.and_comm (~~~(v.setWidth 9)), ← BitVec.and_assoc,
    RegisterWindow.request_false_iff.mp sends.1, BitVec.zero_and]

end Sys2Proof.Machine

open Sys2Proof Sys2Proof.Machine

/-- Settles O8: one message for each assertion of the request, and none for a change that asserts nothing. -/
theorem interruptMessages : Obligations.InterruptMessages := by
  unfold Obligations.InterruptMessages
  intro s
  refine ⟨RegisterWindow.request_iff, fun cause enable => ?_,
    fun c => ⟨rfl, fun asserted => State.setCause_carried_of_request asserted c⟩, fun _ => rfl, fun _ _ => rfl⟩
  dsimp only
  split
  · next sends => exact State.setIrq_sends s cause enable sends
  · next silent => exact (State.setIrq_silent s cause enable silent).trans (by rw [List.append_nil])

namespace Sys2Proof.Machine

/-! ### Writes (R187, R189) -/

/-- CONTROL judges the low byte of the word written (R189). -/
theorem State.writeControl_eq (s : State) (v : BitVec 32) : s.writeControl v =
    if v.setWidth 8 = 0x01#8 then s.commandStart else if v.setWidth 8 = 0x02#8 then s.commandStop
    else if v.setWidth 8 = 0x0F#8 then s.softReset else s := by
  unfold State.writeControl
  generalize v.setWidth 8 = low
  split
  · next one => rw [if_pos (BitVec.eq_of_toNat_eq (y := 0x01#8) one)]
  · next two => rw [BitVec.eq_of_toNat_eq (y := 0x02#8) two]; rfl
  · next fifteen => rw [BitVec.eq_of_toNat_eq (y := 0x0F#8) fifteen]; rfl
  · next one two fifteen =>
    rw [if_neg fun h => one (congrArg BitVec.toNat h), if_neg fun h => two (congrArg BitVec.toNat h),
      if_neg fun h => fifteen (congrArg BitVec.toNat h)]

/-- Where a word is written that no register takes, nothing changes (R187, log 22). -/
theorem State.writeRegister_other {s : State} {offset : BitVec 5}
    (other : offset ∉ [0x08#5, 0x0C#5, 0x10#5, 0x18#5, 0x1C#5]) (v : BitVec 32) :
    s.writeRegister offset.toNat v = s := by
  have apart (register : BitVec 5) (taken : register ∈ [0x08#5, 0x0C#5, 0x10#5, 0x18#5, 0x1C#5]) :
      offset.toNat ≠ register.toNat := fun same => other (BitVec.eq_of_toNat_eq same ▸ taken)
  unfold State.writeRegister
  split
  · next here => exact absurd here (apart 0x08#5 (by decide))
  · next here => exact absurd here (apart 0x0C#5 (by decide))
  · next here => exact absurd here (apart 0x10#5 (by decide))
  · next here => exact absurd here (apart 0x18#5 (by decide))
  · next here => exact absurd here (apart 0x1C#5 (by decide))
  · rfl

theorem exec_registerWrite_narrow {width : AccessWidth} (narrow : width ≠ .word) (offset : BitVec 5) (v : BitVec 32)
    (s : State) : exec (.registerWrite offset width v) s = .next s := by
  cases width with
  | byte => rfl
  | half => rfl
  | word => exact absurd rfl narrow

/-- ENABLE holds nine bits. -/
theorem setWidth_and_enableMask (v : BitVec 32) : (v &&& 0x1FF#32).setWidth 9 = v.setWidth 9 := by
  rw [BitVec.setWidth_and]
  exact BitVec.and_allOnes

/-! ### Reads (R187) -/

/-- A word read at a register's offset gives the register. -/
theorem State.registerRead_word (s : State) {offset : BitVec 5} (aligned : offset.toNat % 4 = 0) :
    s.registerRead offset .word = s.registerAt (offset.toNat / 4) := by
  unfold State.registerRead
  rw [aligned, Nat.mul_zero, Nat.pow_zero, Nat.div_one]
  simp [AccessWidth.bytes, Nat.mod_eq_of_lt (BitVec.isLt _)]

/-- The register that holds an offset begins at the multiple of 4 below it. -/
theorem register_of_offset (offset : BitVec 5) :
    (offset &&& 0x1C#5).toNat % 4 = 0 ∧ (offset &&& 0x1C#5).toNat / 4 = offset.toNat / 4 := by
  revert offset
  decide

theorem registerRead_of_word (s : State) (offset : BitVec 5) (width : AccessWidth) :
    s.registerRead offset width = BitVec.ofNat 32
      ((s.registerRead (offset &&& 0x1C#5) .word).toNat / 2 ^ (8 * (offset.toNat % 4)) %
        2 ^ (8 * AccessWidth.bytes width)) := by
  obtain ⟨aligned, same⟩ := register_of_offset offset
  rw [s.registerRead_word aligned, same]
  rfl

theorem ident_fields (p : Straps) : p.ident.extractLsb' 0 15 = 0x5C4E#15 ∧
    p.ident.extractLsb' 15 15 = BitVec.ofNat 15 p.rigMode.partCode ∧
    p.ident.getLsbD 30 = !p.slotsFull ∧ p.ident.getLsbD 31 = true := by
  obtain ⟨rigMode, slotsFull, referencePresent⟩ := p
  cases rigMode <;> cases slotsFull <;> decide +revert

/-- The fields of STATE by its three codes. -/
theorem stateWord_fields (r : RegisterWindow) :
    r.stateWord.extractLsb' 0 3 = BitVec.ofNat 3 r.run.code ∧
    r.stateWord.extractLsb' 4 2 = BitVec.ofNat 2 r.halt.code ∧
    r.stateWord.extractLsb' 8 2 = BitVec.ofNat 2 r.outcome.code ∧
    r.stateWord.extractLsb' 3 1 = 0#1 ∧ r.stateWord.extractLsb' 6 2 = 0#2 ∧ r.stateWord.extractLsb' 10 22 = 0#22 := by
  unfold RegisterWindow.stateWord
  generalize r.run = run, r.halt = halt, r.outcome = outcome
  cases run <;> cases halt <;> cases outcome <;> decide

end Sys2Proof.Machine

open Sys2Proof Sys2Proof.Machine

/-- Settles O9: each write by the register it names, and each read through the word of its register. -/
theorem registerWrites : Obligations.RegisterWrites := by
  unfold Obligations.RegisterWrites
  intro v s
  have read (offset : BitVec 5) (aligned : offset.toNat % 4 = 0) := s.registerRead_word aligned
  have ident := ident_fields s.straps
  have state := stateWord_fields s.regs
  refine ⟨congrArg Host.Outcome.next (s.writeCause_eq v), rfl, rfl, rfl, rfl, ?_, ?_,
    fun offset other => congrArg Host.Outcome.next (State.writeRegister_other other v),
    fun offset width narrow => exec_registerWrite_narrow narrow offset v s,
    read 0x08#5 rfl, read 0x14#5 rfl, read 0x00#5 rfl, read 0x04#5 rfl, ?_, ?_, read 0x0C#5 rfl, read 0x10#5 rfl,
    read 0x18#5 rfl, read 0x1C#5 rfl, fun offset width => ?_⟩
  · exact congrArg (fun enable => Host.Outcome.next (s.setIrq s.regs.cause enable)) (setWidth_and_enableMask v).symm
  · have control : exec (.registerWrite 0x08#5 .word v) s = .next (s.writeControl v) := rfl
    rw [control, State.writeControl_eq, apply_ite Host.Outcome.next, apply_ite Host.Outcome.next,
      apply_ite Host.Outcome.next]
    rfl
  · dsimp only
    rw [read 0x00#5 rfl]
    obtain ⟨vendor, part, slots, revision⟩ := ident
    refine ⟨vendor, part.trans ?_, slots, revision⟩
    cases s.straps.rigMode <;> rfl
  · dsimp only
    rw [read 0x04#5 rfl]
    obtain ⟨run, halt, outcome, rest⟩ := state
    refine ⟨run.trans ?_, halt.trans ?_, outcome.trans ?_, rest⟩
    · cases s.regs.run <;> rfl
    · cases s.regs.halt <;> rfl
    · cases s.regs.outcome <;> rfl
  · rw [registerRead_of_word]
    cases width <;> rfl

end

section
/-! SUPPORT. The header's return (R192): which headers are valid, the START actions of a valid one, and HALTED with an
invalid one. -/

namespace Sys2Proof.Machine

/-! ### The header's fields -/

theorem ringEntries_iff (n : Nat) : [16, 32, 64, 128, 256, 512, 1024, 2048, 4096].contains n = true ↔
    ∃ k, 4 ≤ k ∧ k ≤ 12 ∧ n = 2 ^ k := by
  rw [List.contains_iff_mem]
  constructor
  · intro listed
    simp only [List.mem_cons, List.not_mem_nil, or_false] at listed
    rcases listed with h | h | h | h | h | h | h | h | h
    exacts [⟨4, by omega, by omega, h⟩, ⟨5, by omega, by omega, h⟩, ⟨6, by omega, by omega, h⟩,
      ⟨7, by omega, by omega, h⟩, ⟨8, by omega, by omega, h⟩, ⟨9, by omega, by omega, h⟩,
      ⟨10, by omega, by omega, h⟩, ⟨11, by omega, by omega, h⟩, ⟨12, by omega, by omega, h⟩]
  · rintro ⟨k, low, high, rfl⟩
    interval_cases k <;> decide

theorem toNat_ne_zero_iff {w : Nat} (x : BitVec w) : x ≠ 0#w ↔ x.toNat ≠ 0 := by
  rw [Ne, ← BitVec.toNat_inj, BitVec.toNat_zero]

/-- The checks of R192, one for each field of the header. -/
theorem headerValid_iff (h : BitVec 512) : headerValid h = true ↔
    (hdrCueBase h).toNat ≠ 0 ∧ (hdrCueBase h).toNat % 64 = 0 ∧ (hdrCueSize h).toNat % 64 = 0 ∧
    64 ≤ (hdrCueSize h).toNat ∧ (hdrCueSize h).toNat ≤ 1048576 ∧
    (hdrCueBase h).toNat + (hdrCueSize h).toNat ≤ 2 ^ 64 ∧
    (hdrRingBase h).toNat ≠ 0 ∧ (hdrRingBase h).toNat % 128 = 0 ∧
    (∃ k, 4 ≤ k ∧ k ≤ 12 ∧ (hdrEntries h).toNat = 2 ^ k) ∧
    (hdrRingBase h).toNat + 128 * (hdrEntries h).toNat ≤ 2 ^ 64 ∧
    (hdrStatusBase h).toNat ≠ 0 ∧ (hdrStatusBase h).toNat % 64 = 0 ∧ (hdrStatusBase h).toNat + 256 ≤ 2 ^ 64 ∧
    hdrRest h = 0#224 := by
  unfold headerValid
  simp only [Bool.and_eq_true, bne_iff_ne, beq_iff_eq, decide_eq_true_eq, toNat_ne_zero_iff, ringEntries_iff, and_assoc]

/-! ### The header's return -/

section
variable {h : BitVec 512} {read : HostRead} {s : State} (inFlight : s.regs.headerRead = some read)
include inFlight

/-- A header returned in STARTING is judged (R192). -/
theorem exec_headerReadReturn_of_starting (run : s.regs.run = .starting) : exec (.headerReadReturn h) s =
    .next ((s.onRegs fun r => { r with headerRead := none }).judgeHeader h read.address) := by
  unfold exec execHeaderReadReturn
  simp only [inFlight, if_pos run]

/-- A header returned in another run state is discarded (R193). -/
theorem exec_headerReadReturn_of_not_starting (run : s.regs.run ≠ .starting) : exec (.headerReadReturn h) s =
    .next (s.onRegs fun r => { r with headerRead := none }) := by
  unfold exec execHeaderReadReturn
  simp only [inFlight, if_neg run]

end

theorem State.judgeHeader_of_valid {h : BitVec 512} (valid : headerValid h = true) (s : State) (exchange : BitVec 64) :
    s.judgeHeader h exchange = s.enterRunning h exchange := if_pos valid

theorem State.judgeHeader_of_invalid {h : BitVec 512} (invalid : headerValid h = false) (s : State)
    (exchange : BitVec 64) : s.judgeHeader h exchange = s.halt .headerInvalid := if_neg (ne_true_of_eq_false invalid)

end Sys2Proof.Machine

open Sys2Proof Sys2Proof.Machine

/-- Settles O11: the fields one by one, and a header that halts or is discarded. -/
theorem headerRefused : Obligations.HeaderRefused := by
  unfold Obligations.HeaderRefused
  refine ⟨headerValid_iff, fun h read s inFlight => ⟨fun run invalid => ?_, fun run => ?_⟩⟩
  · rw [exec_headerReadReturn_of_starting inFlight run, State.judgeHeader_of_invalid invalid]
    exact ⟨_, rfl, (State.halt_onlyRegisters _ _).of_onRegs, State.halt_regs _ _⟩
  · exact exec_headerReadReturn_of_not_starting inFlight run

namespace Sys2Proof.Machine

/-! ### The START actions of the receivers (R20, log 26) -/

/-- A receiver goes to HUNT or OFF by its LINK setting, its counters 0, its positions kept. -/
theorem Receiver.start_fields (enabled : Bool) (r : Receiver) :
    (r.start enabled).sync = (if enabled then .hunt else .off) ∧ (r.start enabled).history = [] ∧
    (r.start enabled).expectation = none ∧ (r.start enabled).filling = r.filling ∧
    (r.start enabled).scanFrom = r.scanFrom ∧ (r.start enabled).counters = LinkCounters.zero := by
  cases enabled <;> exact ⟨rfl, rfl, rfl, rfl, rfl, rfl⟩

section
variable (s : State)

theorem State.startCause_regs (e : Eye) : (s.startCause e).regs = { s.regs with
    cause := if (s.receiver e).sync = .frameLock then s.regs.cause ||| 0x008#9 else s.regs.cause } := by
  unfold State.startCause
  split
  · next locked => rw [State.setCause_regs]; rfl
  · rfl

/-- LINK at START leaves all but the register window and the Bus Port's list. -/
theorem State.startCause_onlyRegisters (e : Eye) : OnlyRegisters s (s.startCause e) := by
  unfold State.startCause
  split
  · constructor
    · constructor <;> simp
    · simp
  · constructor
    · constructor <;> rfl
    · rfl

theorem State.startLinks_regs : s.startLinks.regs = { s.regs with
    cause := if s.left.sync = .frameLock ∨ s.right.sync = .frameLock then s.regs.cause ||| 0x008#9
      else s.regs.cause } := by
  have same : (s.startCause .left).receiver .right = s.right := (s.startCause_onlyRegisters .left).right
  have own : s.receiver .left = s.left := rfl
  unfold State.startLinks
  rw [State.onReceiver_regs, State.onReceiver_regs, State.startCause_regs, State.startCause_regs, same, own]
  by_cases l : s.left.sync = .frameLock <;> by_cases r : s.right.sync = .frameLock <;> simp [l, r, BitVec.or_assoc]

theorem State.startLinks_blocks : s.startLinks.left = s.left.start s.settings.linkLeft ∧
    s.startLinks.right = s.right.start s.settings.linkRight ∧ s.startLinks.store = s.store ∧
    s.startLinks.pace = s.pace ∧ s.startLinks.align = s.align ∧ s.startLinks.settings = s.settings ∧
    s.startLinks.straps = s.straps := by
  have first := s.startCause_onlyRegisters .left
  have second := (s.startCause .left).startCause_onlyRegisters .right
  unfold State.startLinks
  simp [first.left, first.right, first.store, first.pace, first.align, first.settings, first.straps, second.left,
    second.right, second.store, second.pace, second.align, second.settings, second.straps]

/-! ### The START actions of the other blocks -/

theorem State.flush_eq (counted : Bool) : s.flush counted = { s with
    left := s.left.flushCut counted, right := s.right.flushCut counted, store := s.store.flush counted
    matcher := s.matcher.emptied, align := { s.align with busy := none } } := rfl

/-- The first fetch, of the word at the window base (R137). -/
def State.firstFetch (s : State) : Fetch :=
  { sequence := 0, offset := 0, address := s.regs.bases.cueBase, issued := s.pace.stamp, reLook := false }

/-- The reader's START actions: it is RUNNING with its first fetch issued (R137, R160). -/
theorem State.startBlocks_tryFetch (window : 0 < s.regs.bases.cueSize) : s.startBlocks.tryFetch =
    { s.startBlocks with reader := { CueReader.reset with state := .running, fetch := some s.firstFetch } } := by
  have allowed : s.startBlocks.canFetch = true := s.startBlocks.canFetch_iff.2 ⟨Nat.zero_le _, rfl, window, rfl⟩
  have base : s.regs.bases.cueBase + BitVec.ofNat 64 CueReader.reset.fetchPointer = s.regs.bases.cueBase :=
    BitVec.add_zero _
  rw [State.tryFetch_of_allowed allowed, State.firstFetch, ← base]
  rfl

end

/-- The blocks after the START flush, as the receivers take their START actions. -/
def State.started (s : State) (h : BitVec 512) (exchange : BitVec 64) : State :=
  ((s.onRegs fun r => r.enterRunning h exchange).flush false).startLinks

section
variable (s : State) (h : BitVec 512) (exchange : BitVec 64)

theorem State.started_regs : (s.started h exchange).regs = { s.regs.enterRunning h exchange with
    cause := if s.left.sync = .frameLock ∨ s.right.sync = .frameLock then s.regs.cause ||| 0x008#9
      else s.regs.cause } := State.startLinks_regs _

theorem State.started_blocks : (s.started h exchange).left = (s.left.flushCut false).start s.settings.linkLeft ∧
    (s.started h exchange).right = (s.right.flushCut false).start s.settings.linkRight ∧
    (s.started h exchange).store = s.store.flush false ∧ (s.started h exchange).pace = s.pace ∧
    (s.started h exchange).align = { s.align with busy := none } ∧
    (s.started h exchange).settings = s.settings ∧ (s.started h exchange).straps = s.straps :=
  State.startLinks_blocks _

end

theorem State.enterRunning_eq {h : BitVec 512} (window : 0 < (hdrCueSize h).toNat) (s : State) (exchange : BitVec 64) :
    s.enterRunning h exchange = { (s.started h exchange).startBlocks with
      reader := { CueReader.reset with state := .running, fetch := some (s.started h exchange).firstFetch } } := by
  refine State.startBlocks_tryFetch _ ?_
  rw [State.startLinks_regs]
  exact window

end Sys2Proof.Machine

open Sys2Proof Sys2Proof.Machine

/-- Settles O10: the flush, the receivers, the other blocks and the first fetch. -/
theorem headerStartsRun : Obligations.HeaderStartsRun := by
  unfold Obligations.HeaderStartsRun
  intro h read s inFlight run valid
  have window : 0 < (hdrCueSize h).toNat := by
    obtain ⟨-, -, -, size, -⟩ := (headerValid_iff h).1 valid
    omega
  rw [exec_headerReadReturn_of_starting inFlight run, State.judgeHeader_of_valid valid, State.enterRunning_eq window]
  refine ⟨_, rfl, ?_⟩
  have regs := (s.onRegs fun r => { r with headerRead := none }).started_regs h read.address
  have blocks := (s.onRegs fun r => { r with headerRead := none }).started_blocks h read.address
  generalize State.started _ h read.address = u at *
  obtain ⟨left, right, store, pace, align, settings, straps⟩ := blocks
  have kept {α : Type} (f : RegisterWindow → α) : f u.startBlocks.regs = f _ := congrArg f regs
  obtain ⟨syncL, historyL, expectationL, fillingL, scanL, countersL⟩ :=
    Receiver.start_fields s.settings.linkLeft (s.left.flushCut false)
  obtain ⟨syncR, historyR, expectationR, fillingR, scanR, countersR⟩ :=
    Receiver.start_fields s.settings.linkRight (s.right.flushCut false)
  refine ⟨kept (·.run), kept (·.halt), kept (·.headerRead), kept (·.bases), kept (·.enable), kept (·.outcome),
    kept (·.cause), (congrArg (·.sync) left).trans syncL, (congrArg (·.sync) right).trans syncR,
    (congrArg (·.history) left).trans historyL, (congrArg (·.history) right).trans historyR,
    (congrArg (·.filling) left).trans fillingL, (congrArg (·.filling) right).trans fillingR,
    (congrArg (·.expectation) left).trans expectationL, (congrArg (·.expectation) right).trans expectationR,
    (congrArg (·.scanFrom) left).trans scanL, (congrArg (·.scanFrom) right).trans scanR,
    (congrArg (·.counters) left).trans countersL, (congrArg (·.counters) right).trans countersR,
    congrArg (fun f : FrameStore => { f with flushed := 0#32 }) store,
    congrArg (fun p : PaceGenerator => { p with inconsistent := 0#32 }) pace, rfl, rfl, rfl, rfl,
    (congrArg AlignmentUnit.start align).trans rfl, rfl, rfl, ?_, settings, straps⟩
  rw [State.firstFetch, regs, pace]
  rfl

end

section
/-! SUPPORT. A bus error (R196): which accesses fail, and what stops. -/

namespace Sys2Proof.Machine

/-! ### The accesses that fail (R195, R196) -/

theorem RegisterWindow.accesses_iff {r : RegisterWindow} :
    r.accesses = true ↔ r.run = .starting ∨ r.run = .running ∨ r.run = .draining := by
  unfold RegisterWindow.accesses
  cases r.run <;> simp

/-- The writer's accesses keep its order, and the other blocks have one access at a time (R195). -/
theorem State.inTurn_iff (s : State) (a : Access) : s.inTurn a = true ↔
    (a = .recordWrite ∨ a = .statusWrite ∨ a = .consumedRead → s.writer.inTurn a = true) := by
  cases a <;> simp [State.inTurn]

theorem State.canFail_iff (s : State) (a : Access) : s.canFail a = true ↔
    (s.regs.run = .starting ∨ s.regs.run = .running ∨ s.regs.run = .draining) ∧
    (a = .recordWrite ∨ a = .statusWrite ∨ a = .consumedRead → s.writer.inTurn a = true) ∧
    ((s.readIssued a).isSome = true ∨ (s.writeInFlight a = true ∧ s.regs.busMaster = false)) := by
  unfold State.canFail
  rw [Bool.and_eq_true, Bool.and_eq_true, RegisterWindow.accesses_iff, State.inTurn_iff, and_assoc, Bool.or_eq_true,
    Bool.and_eq_true, Bool.not_eq_true']

theorem State.timedOut_iff (s : State) (a : Access) : s.timedOut a = true ↔
    (s.regs.run = .starting ∨ s.regs.run = .running ∨ s.regs.run = .draining) ∧
    ∃ issued, s.readIssued a = some issued ∧ 50000 ≤ (s.pace.stamp - issued).toNat := by
  unfold State.timedOut
  rw [Bool.and_eq_true, RegisterWindow.accesses_iff]
  refine and_congr_right fun _ => ?_
  cases s.readIssued a with
  | none => simp
  | some issued =>
    exact decide_eq_true_iff.trans ⟨fun late => ⟨issued, rfl, late⟩, fun ⟨_, same, late⟩ => Option.some.inj same ▸ late⟩

/-! ### What a bus error leaves (R196) -/

section
variable (s : State)

/-- Every access abandoned, the three blocks stopped and the partial messages dropped, ahead of HALTED. -/
def State.stoppedByError : State := { s with
  carried := s.abandoned
  regs := { s.regs with headerRead := none }
  delivery := { s.delivery with copy := none }
  writer := { s.writer with reserved := 0 }.stop
  leftLens := s.leftLens.dropPartial
  rightLens := s.rightLens.dropPartial
  rig := s.rig.dropPartial
  reader := s.reader.stop }

theorem State.busError_eq : s.busError = s.stoppedByError.halt .busError := by
  unfold State.busError State.stoppedByError
  refine congrArg (State.halt · .busError) ?_
  simp only [State.dropCopy, State.dropPartials, State.onRegs, State.onReader, State.onWriter, State.onDelivery,
    State.onPort]

/-- HALT changes the register window and the Bus Port's list alone. -/
theorem State.busError_onlyRegisters : OnlyRegisters s.stoppedByError s.busError := by
  rw [State.busError_eq]
  exact State.halt_onlyRegisters _ _

theorem State.busError_regs : s.busError.regs = { s.regs with
    headerRead := none, run := .halted, halt := .busError, cause := s.regs.cause ||| 0x100#9 } := by
  rw [State.busError_eq, State.halt_regs]
  rfl

/-- The blocks but for the register window, as the bus error stops them. -/
theorem State.busError_stops : s.busError.reader = { s.reader with state := .off, fetch := none } ∧
    s.busError.delivery = { s.delivery with copy := none } ∧
    s.busError.writer = { s.writer with
      reserved := 0, state := .stopped, recordWrite := none, consumedRead := none, statusWrite := none,
      presented := [], final := .notReached } ∧
    s.busError.leftLens = { s.leftLens with reception := .awaiting } ∧
    s.busError.rightLens = { s.rightLens with reception := .awaiting } ∧
    s.busError.rig = { s.rig with reception := .awaiting } := by
  have h := s.busError_onlyRegisters
  exact ⟨h.reader, h.delivery, h.writer, h.leftLens, h.rightLens, h.rig⟩

theorem State.busError_goesOn : s.busError.left = s.left ∧ s.busError.right = s.right ∧ s.busError.store = s.store ∧
    s.busError.pace = s.pace ∧ s.busError.matcher = s.matcher ∧ s.busError.align = s.align ∧
    s.busError.settings = s.settings ∧ s.busError.straps = s.straps ∧ s.busError.pending = s.pending := by
  have h := s.busError_onlyRegisters
  exact ⟨h.left, h.right, h.store, h.pace, h.matcher, h.align, h.settings, h.straps, h.pending⟩

/-- The writes in flight join the Bus Port's list, and HALT's message after them (log 19). -/
theorem State.busError_carried : s.carried <+: s.busError.carried := by
  refine s.abandoned_prefix.trans ?_
  rw [State.busError_eq, State.halt]
  rcases State.setCause_carried _ .halt with silent | message
  · rw [silent]; exact List.prefix_rfl
  · rw [message]; exact List.prefix_append _ _

theorem exec_busError_fails {a : Access} {s : State} (fails : s.canFail a = true) :
    exec (.busError a) s = .next s.busError := congrArg Host.Outcome.next (if_pos fails)

theorem exec_busError_stays {a : Access} {s : State} (goesOn : ¬ s.canFail a = true) :
    exec (.busError a) s = .next s := congrArg Host.Outcome.next (if_neg goesOn)

theorem exec_readTimeout_fails {a : Access} {s : State} (late : s.timedOut a = true) :
    exec (.readTimeout a) s = .next s.busError := congrArg Host.Outcome.next (if_pos late)

theorem exec_readTimeout_stays {a : Access} {s : State} (goesOn : ¬ s.timedOut a = true) :
    exec (.readTimeout a) s = .next s := congrArg Host.Outcome.next (if_neg goesOn)

end

end Sys2Proof.Machine

open Sys2Proof Sys2Proof.Machine

/-- Settles O12: a failure in turn and a late read take the same way, and any other is ignored. -/
theorem busErrorHalts : Obligations.BusErrorHalts := by
  unfold Obligations.BusErrorHalts
  intro a s
  dsimp only
  rw [← State.canFail_iff, ← State.timedOut_iff]
  refine ⟨fun c failure => ⟨s.busError, ?_, s.busError_regs, ?_⟩, exec_busError_stays, exec_readTimeout_stays⟩
  · rcases failure with ⟨rfl, fails⟩ | ⟨rfl, late⟩
    · exact exec_busError_fails fails
    · exact exec_readTimeout_fails late
  · obtain ⟨reader, delivery, writer, leftLens, rightLens, rig⟩ := s.busError_stops
    obtain ⟨left, right, store, pace, matcher, align, settings, straps, pending⟩ := s.busError_goesOn
    exact ⟨reader, delivery, writer, leftLens, rightLens, rig, left, right, store, pace, matcher, align, settings,
      straps, pending, s.busError_carried⟩

end

section
/-! SUPPORT. Copy completion (R105 to R107, R117 to R122, R203): the packing of pixels read back group by group, the
target writes of each kind of entry, and what a completed delivery leaves. -/

namespace Sys2Proof.Machine

/-! ### Digits of a number -/

/-- The digit of a number at position `j`, with digits of `b` bits. -/
def digit (b x j : Nat) : Nat := x / 2 ^ (b * j) % 2 ^ b

section
variable {b k low high j : Nat}

/-- A digit of the low part of a number. -/
theorem digit_low (inside : j < k) : digit b (low + 2 ^ (b * k) * high) j = digit b low j := by
  obtain ⟨rest, rfl⟩ : ∃ rest, k = j + 1 + rest := Nat.exists_eq_add_of_lt inside |>.imp fun _ h => by omega
  have split : 2 ^ (b * (j + 1 + rest)) = 2 ^ (b * j) * (2 ^ b * 2 ^ (b * rest)) := by
    rw [← Nat.pow_add, ← Nat.pow_add]
    congr 1
    ring
  rw [digit, digit, split, Nat.mul_assoc, Nat.add_mul_div_left _ _ (Nat.two_pow_pos _), Nat.mul_assoc,
    Nat.add_mul_mod_self_left]

/-- A digit beyond the low part of a number. -/
theorem digit_high (fits : low < 2 ^ (b * k)) : digit b (low + 2 ^ (b * k) * high) (k + j) = digit b high j := by
  rw [digit, digit, Nat.mul_add, Nat.pow_add, ← Nat.div_div_eq_div_mul, Nat.add_mul_div_left _ _ (Nat.two_pow_pos _),
    Nat.div_eq_of_lt fits, Nat.zero_add]

end

theorem natOf_append (low high : List Byte) : natOf (low ++ high) = natOf low + 256 ^ low.length * natOf high := by
  induction low with
  | nil => simp [natOf]
  | cons b low ih => rw [List.cons_append, natOf, natOf, ih, List.length_cons, Nat.pow_succ]; ring

/-! ### Groups (R203) -/

/-- The bytes of a group of pixels. -/
def Depth.groupBytes : Depth → Nat
  | .ten => 5
  | .twelve => 3
  | .sixteen => 2

/-- The pixels of a group. -/
def Depth.groupPixels : Depth → Nat
  | .ten => 4
  | .twelve => 2
  | .sixteen => 1

theorem groupBits (depth : Depth) : 8 * Depth.groupBytes depth = depth.bits * Depth.groupPixels depth := by
  cases depth <;> rfl

/-- The pixels of a group, from its bytes. -/
def groupDigits (depth : Depth) (group : List Byte) : List Nat :=
  (List.range (Depth.groupPixels depth)).map (digit depth.bits (natOf group))

/-- The first group of a row unpacks to its digits. -/
theorem unpack_group (depth : Depth) {group : List Byte} (length : group.length = Depth.groupBytes depth)
    (rest : List Byte) : unpack depth (group ++ rest) = groupDigits depth group ++ unpack depth rest := by
  cases depth with
  | ten =>
    match group, length with
    | [a, b, c, d, e], _ => simp [unpack, unpack10, groupDigits, Depth.groupPixels, digit, Depth.bits, List.range_succ]
  | twelve =>
    match group, length with
    | [a, b, c], _ =>
      have fits : natOf [a, b, c] < 16777216 := by simpa using natOf_lt [a, b, c]
      have high : natOf [a, b, c] / 4096 < 4096 := by omega
      simp [unpack, unpack12, groupDigits, Depth.groupPixels, digit, Depth.bits, List.range_succ,
        Nat.mod_eq_of_lt high]
  | sixteen =>
    match group, length with
    | [a, b], _ =>
      have fits : natOf [a, b] < 65536 := by simpa using natOf_lt [a, b]
      simp [unpack, unpack16, groupDigits, Depth.groupPixels, digit, Depth.bits, List.range_succ, Nat.mod_eq_of_lt fits]

/-- The first group of pixels packs to bytes whose digits they are. -/
theorem pack_group (depth : Depth) {pixels : List Nat} (length : pixels.length = Depth.groupPixels depth)
    (small : ∀ p ∈ pixels, p < 2 ^ depth.bits) (rest : List Nat) : ∃ group : List Byte,
    group.length = Depth.groupBytes depth ∧ pack depth (pixels ++ rest) = group ++ pack depth rest ∧
    groupDigits depth group = pixels := by
  cases depth with
  | ten =>
    match pixels, length with
    | [p, q, r, t], _ =>
      simp only [Depth.bits, List.mem_cons, List.not_mem_nil, or_false, forall_eq_or_imp, forall_eq] at small
      obtain ⟨hp, hq, hr, ht⟩ := small
      refine ⟨_, leBytes_length 5 _, rfl, ?_⟩
      rw [groupDigits, natOf_leBytes_of_lt (by omega)]
      simp only [Depth.groupPixels, digit, Depth.bits, List.range_succ, List.range_zero, List.nil_append,
        List.cons_append, List.map_cons, List.map_nil]
      norm_num
      omega
  | twelve =>
    match pixels, length with
    | [p, q], _ =>
      simp only [Depth.bits, List.mem_cons, List.not_mem_nil, or_false, forall_eq_or_imp, forall_eq] at small
      obtain ⟨hp, hq⟩ := small
      refine ⟨_, leBytes_length 3 _, rfl, ?_⟩
      rw [groupDigits, natOf_leBytes_of_lt (by omega)]
      simp only [Depth.groupPixels, digit, Depth.bits, List.range_succ, List.range_zero, List.nil_append,
        List.cons_append, List.map_cons, List.map_nil]
      norm_num
      omega
  | sixteen =>
    match pixels, length with
    | [p], _ =>
      simp only [Depth.bits, List.mem_cons, List.not_mem_nil, or_false, forall_eq] at small
      refine ⟨_, leBytes_length 2 _, rfl, ?_⟩
      rw [groupDigits, natOf_leBytes_of_lt (by omega)]
      simp only [Depth.groupPixels, digit, Depth.bits, List.range_succ, List.range_zero, List.nil_append,
        List.map_cons, List.map_nil]
      norm_num
      omega

/-! ### Rows -/

theorem unpack_nil (depth : Depth) : unpack depth [] = [] := by cases depth <;> rfl

theorem pack_nil (depth : Depth) : pack depth [] = [] := by cases depth <;> rfl

/-- The first group of a list of whole groups. -/
theorem group_of_length {α : Type} {size n : Nat} {xs : List α} (length : xs.length = (n + 1) * size) :
    ∃ group rest, xs = group ++ rest ∧ group.length = size ∧ rest.length = n * size := by
  rw [Nat.succ_mul] at length
  exact ⟨xs.take size, xs.drop size, (List.take_append_drop size xs).symm, by simp; omega, by simp; omega⟩

/-- Row bytes of whole groups unpack to the digits of the number they spell (R203). -/
theorem unpack_getElem? (depth : Depth) (n : Nat) : ∀ {bytes : List Byte} {j : Nat},
    bytes.length = n * Depth.groupBytes depth → j < n * Depth.groupPixels depth →
    (unpack depth bytes)[j]? = some (digit depth.bits (natOf bytes) j) := by
  induction n with
  | zero => exact fun _ inside => absurd inside (by simp)
  | succ n ih =>
    intro bytes j length inside
    obtain ⟨group, rest, rfl, size, others⟩ := group_of_length length
    have count : (groupDigits depth group).length = Depth.groupPixels depth := by simp [groupDigits]
    have width : 256 ^ group.length = 2 ^ (depth.bits * Depth.groupPixels depth) := by
      rw [size, ← groupBits, Nat.pow_mul]
    have fits := natOf_lt group
    rw [width] at fits
    rw [unpack_group depth size, natOf_append, width]
    by_cases first : j < Depth.groupPixels depth
    · rw [List.getElem?_append_left (count.symm ▸ first), digit_low first]
      simp [groupDigits, first]
    · obtain ⟨i, rfl⟩ := Nat.exists_eq_add_of_le (Nat.le_of_not_lt first)
      rw [Nat.succ_mul] at inside
      rw [List.getElem?_append_right (by omega), count, Nat.add_sub_cancel_left, digit_high fits]
      exact ih others (by omega)

/-- Pixels of whole groups read back as they were packed (R203). -/
theorem unpack_pack (depth : Depth) (n : Nat) : ∀ {pixels : List Nat},
    pixels.length = n * Depth.groupPixels depth → (∀ p ∈ pixels, p < 2 ^ depth.bits) →
    unpack depth (pack depth pixels) = pixels := by
  induction n with
  | zero =>
    intro pixels length _
    have empty : pixels = [] := List.eq_nil_of_length_eq_zero (by simpa using length)
    rw [empty, pack_nil, unpack_nil]
  | succ n ih =>
    intro pixels length small
    obtain ⟨first, rest, rfl, size, others⟩ := group_of_length length
    rw [List.forall_mem_append] at small
    obtain ⟨group, bytes, packed, digits⟩ := pack_group depth size small.1 rest
    rw [packed, unpack_group depth bytes, digits, ih others small.2]

/-! ### The pictures (R105, R117) -/

theorem Orientation.flipsRows_iff {o : Orientation} : o.flipsRows = true ↔ o = .flipRows ∨ o = .rotate180 := by
  cases o <;> decide

theorem Orientation.flipsColumns_iff {o : Orientation} : o.flipsColumns = true ↔ o = .flipColumns ∨ o = .rotate180 := by
  cases o <;> decide

theorem Orientation.row_eq (o : Orientation) (height r : Nat) :
    o.row height r = if o = .flipRows ∨ o = .rotate180 then height - 1 - r else r :=
  if_congr Orientation.flipsRows_iff rfl rfl

theorem Copy.orientedRow_eq (c : Copy) (mem : Memory) (o : Orientation) (slot r : Nat) :
    c.orientedRow mem o slot r =
      let stored := Memory.readBytes mem (rowAddress c.format slot
        (if o = .flipRows ∨ o = .rotate180 then c.format.height - 1 - r else r)) c.format.rowBytes
      if o = .flipColumns ∨ o = .rotate180 then pack c.format.depth (unpack c.format.depth stored).reverse
      else stored := by
  rw [Copy.orientedRow, Orientation.row_eq]
  exact if_congr Orientation.flipsColumns_iff rfl rfl

/-! ### The target writes (R107, R118, R119) -/

theorem FormatSetting.leftPlace_eq (f : FormatSetting) (r : Nat) :
    f.leftPlace r = if f.packing = .sequential then r else 2 * r := by
  unfold FormatSetting.leftPlace
  cases f.packing <;> rfl

theorem FormatSetting.rightPlace_eq (f : FormatSetting) (r : Nat) :
    f.rightPlace r = if f.packing = .sequential then f.height + r else 2 * r + 1 := by
  unfold FormatSetting.rightPlace
  cases f.packing <;> rfl

section
variable (c : Copy) (rows one two : Nat → List Byte)

/-- The write of an output row of the left half. -/
def Copy.leftOf (row : Nat) : HostWrite :=
  c.rowWrite (if c.format.packing = .sequential then row else 2 * row) (rows row)

/-- The write of an output row of the right half. -/
def Copy.rightOf (row : Nat) : HostWrite :=
  c.rowWrite (if c.format.packing = .sequential then c.format.height + row else 2 * row + 1) (rows row)

/-- The writes of both halves, in the order of the packing. -/
def Copy.bothOf : List HostWrite :=
  if c.format.packing = .sequential then
    (List.range c.format.height).map (c.leftOf one) ++ (List.range c.format.height).map (c.rightOf two)
  else (List.range c.format.height).flatMap fun row => [c.leftOf one row, c.rightOf two row]

end

section
variable {c : Copy} {mem : Memory} {x : Entry} {one two : Nat → List Byte}

theorem Copy.leftWrite_of_rows (left : ∀ row, c.leftRow mem x row = some (one row)) :
    c.leftWrite mem x = fun row => some (c.leftOf one row) := by
  funext row
  rw [Copy.leftWrite, left, FormatSetting.leftPlace_eq]
  rfl

theorem Copy.rightWrite_of_rows (right : ∀ row, c.rightRow mem x row = some (two row)) :
    c.rightWrite mem x = fun row => some (c.rightOf two row) := by
  funext row
  rw [Copy.rightWrite, right, FormatSetting.rightPlace_eq]
  rfl

theorem Copy.leftWrite_of_none (left : ∀ row, c.leftRow mem x row = none) : c.leftWrite mem x = fun _ => none := by
  funext row
  rw [Copy.leftWrite, left]
  rfl

theorem Copy.rightWrite_of_none (right : ∀ row, c.rightRow mem x row = none) :
    c.rightWrite mem x = fun _ => none := by
  funext row
  rw [Copy.rightWrite, right]
  rfl

theorem Copy.writes_both (left : ∀ row, c.leftRow mem x row = some (one row))
    (right : ∀ row, c.rightRow mem x row = some (two row)) : c.writes mem x = c.bothOf one two := by
  unfold Copy.writes Copy.bothOf
  rw [Copy.leftWrite_of_rows left, Copy.rightWrite_of_rows right]
  cases packing : c.format.packing with
  | sequential => simp [List.filterMap_eq_map']
  | rowPaired => simp

theorem Copy.writes_left (left : ∀ row, c.leftRow mem x row = some (one row))
    (right : ∀ row, c.rightRow mem x row = none) :
    c.writes mem x = (List.range c.format.height).map (c.leftOf one) := by
  unfold Copy.writes
  rw [Copy.leftWrite_of_rows left, Copy.rightWrite_of_none right]
  cases c.format.packing with
  | sequential => simp [List.filterMap_eq_map']
  | rowPaired => simp [List.map_eq_flatMap]

theorem Copy.writes_right (left : ∀ row, c.leftRow mem x row = none)
    (right : ∀ row, c.rightRow mem x row = some (two row)) :
    c.writes mem x = (List.range c.format.height).map (c.rightOf two) := by
  unfold Copy.writes
  rw [Copy.leftWrite_of_none left, Copy.rightWrite_of_rows right]
  cases c.format.packing with
  | sequential => simp [List.filterMap_eq_map']
  | rowPaired => simp [List.map_eq_flatMap]

end

/-- The writes of each kind of entry: the eyes it has give the halves it writes (R105, R107). -/
theorem Copy.writes_of_kind (c : Copy) (mem : Memory) (x : Entry) (l r : EntryEye) :
    let leftRows := c.orientedRow mem c.orientLeft l.slot
    let rightRows := c.orientedRow mem c.orientRight r.slot
    let shifted := fun row => c.shiftedRow mem r.slot row (x.applied.getD 0)
    (∀ d, x.kind = .pair d → x.left = some l → x.right = some r → c.writes mem x = c.bothOf leftRows shifted) ∧
    (x.kind = .orphan .left false → x.left = some l →
      c.writes mem x = (List.range c.format.height).map (c.leftOf leftRows)) ∧
    (x.kind = .orphan .right false → x.right = some r →
      c.writes mem x = (List.range c.format.height).map (c.rightOf shifted)) ∧
    (x.kind = .orphan .left true → x.left = some l → c.writes mem x = c.bothOf leftRows leftRows) ∧
    (x.kind = .orphan .right true → x.right = some r → c.writes mem x = c.bothOf rightRows rightRows) := by
  refine ⟨fun d kind left right => ?_, fun kind left => ?_, fun kind right => ?_, fun kind left => ?_,
    fun kind right => ?_⟩
  · exact Copy.writes_both (fun row => by simp [Copy.leftRow, kind, left]) fun row => by
      simp [Copy.rightRow, kind, right]
  · exact Copy.writes_left (fun row => by simp [Copy.leftRow, kind, left]) fun row => by simp [Copy.rightRow, kind]
  · exact Copy.writes_right (fun row => by simp [Copy.leftRow, kind]) fun row => by simp [Copy.rightRow, kind, right]
  · exact Copy.writes_both (fun row => by simp [Copy.leftRow, kind, left]) fun row => by
      simp [Copy.rightRow, kind, left]
  · exact Copy.writes_both (fun row => by simp [Copy.leftRow, kind, right]) fun row => by
      simp [Copy.rightRow, kind, right]

/-! ### The entry that a copy delivers -/

section
variable {x : Entry} {before after : List Entry} {m : PairMatcher}

theorem PairMatcher.delivering_of_one (table : m.table = before ++ x :: after) (delivering : x.state = .delivering)
    (others : ∀ y ∈ before ++ after, y.state ≠ .delivering) : m.delivering = some x := by
  have earlier : before.find? (·.state == .delivering) = none :=
    List.find?_eq_none.2 fun y held here =>
    others y (List.mem_append_left _ held) (eq_of_beq here)
  rw [PairMatcher.delivering, table, List.find?_append, earlier, Option.none_or]
  exact List.find?_cons_of_pos (beq_iff_eq.2 delivering)

/-- The completed delivery removes its entry and no other (R121). -/
theorem PairMatcher.delivered_of_one (table : m.table = before ++ x :: after) (delivering : x.state = .delivering)
    (others : ∀ y ∈ before ++ after, y.state ≠ .delivering) : m.delivered x = { m with
      table := before ++ after
      takeRecords := if x.takeNumber.isSome then Counter.inc m.takeRecords else m.takeRecords } := by
  have absent : x ∉ before := fun held => others x (List.mem_append_left _ held) delivering
  rw [PairMatcher.delivered, table, List.erase_append_right _ absent, List.erase_cons_head]

end

/-! ### Completion (R121) -/

/-- The counters of a completed delivery: its kind's is raised. -/
theorem DeliveryEngine.completed_fields (d : DeliveryEngine) (k : EntryKind) : (d.completed k).copy = none ∧
    (d.completed k).targets = d.targets ∧ (d.completed k).short = d.short ∧
    (d.completed k).pairs = (match k with
      | .pair _ => Counter.inc d.pairs
      | _ => d.pairs) ∧
    (d.completed k).singles = (match k with
      | .orphan _ false => Counter.inc d.singles
      | _ => d.singles) ∧
    (d.completed k).doubles = (match k with
      | .orphan _ true => Counter.inc d.doubles
      | _ => d.doubles) := by
  cases k with
  | pair => exact ⟨rfl, rfl, rfl, rfl, rfl, rfl⟩
  | orphan e doubled => cases doubled <;> exact ⟨rfl, rfl, rfl, rfl, rfl, rfl⟩

section
variable (s : State) (c : Copy) (x : Entry)

/-- The part with its copy completed, ahead of the matcher's pass. -/
def State.copyDone : State := { s with
  carried := s.carried ++ (c.remaining s.store.mem x).map BusItem.write
  writer := (State.place { s with writer := { s.writer with reserved := s.writer.reserved - 1 } }
    (.delivery (s.deliveryRecord c x))).writer
  matcher := s.matcher.delivered x
  store := s.store.releaseAll x.slots
  delivery := s.delivery.completed x.kind }

theorem State.completeCopy_eq : s.completeCopy c x = (s.copyDone c x).dispose.onReader CueReader.reportPair := by
  have placed : (s.carryAll (c.remaining s.store.mem x)).placeReserved (.delivery (s.deliveryRecord c x)) = { s with
      carried := s.carried ++ (c.remaining s.store.mem x).map BusItem.write
      writer := (State.place { s with writer := { s.writer with reserved := s.writer.reserved - 1 } }
        (.delivery (s.deliveryRecord c x))).writer } := by
    have writer : ((s.carryAll (c.remaining s.store.mem x)).placeReserved (.delivery (s.deliveryRecord c x))).writer =
        (State.place { s with writer := { s.writer with reserved := s.writer.reserved - 1 } }
          (.delivery (s.deliveryRecord c x))).writer := State.place_writer_congr _ rfl rfl rfl
    rw [← writer]
    exact State.place_eq _ _
  rw [State.completeCopy, placed]
  rfl

end

section
variable {s : State} {c : Copy} {x : Entry} (copying : s.delivery.copy = some c)
  (delivering : s.matcher.delivering = some x)
include copying delivering

theorem exec_copyCompletion_completes (master : s.regs.busMaster = true) :
    exec (.copyCompletion none) s = .next (s.completeCopy c x) := by
  unfold exec execCopyCompletion
  simp only [copying, delivering, if_pos master]

theorem exec_copyCompletion_accepts (master : s.regs.busMaster = true) (n : Nat) :
    exec (.copyCompletion (some n)) s = .next (s.acceptRows c x n) := by
  unfold exec execCopyCompletion
  simp only [copying, delivering, if_pos master]

/-- With bus mastering off no target write is accepted (R196, log 25). -/
theorem exec_copyCompletion_waits (off : s.regs.busMaster = false) (writes : Option Nat) :
    exec (.copyCompletion writes) s = .next s := by
  unfold exec execCopyCompletion
  simp only [copying, delivering, if_neg (ne_true_of_eq_false off)]

/-- A reset abandons the target writes not yet accepted, and the writer's own writes (R122, R202). -/
theorem State.abandoned_of_copy : s.writesInFlight =
    c.remaining s.store.mem x ++ s.writer.recordWrite.toList ++ s.writer.statusWrite.toList := by
  unfold State.writesInFlight State.copyWrites
  simp only [copying, delivering]

end

/-- One eye's fields, with the damage and the flaws of its HELD slot's frame. -/
theorem State.eyeFields_of_held {s : State} {v : EntryEye} {f : FrameRecord} (held : s.store.slot v.slot = .held f) :
    s.eyeFields v = { captureStamp := v.captureStamp, frameCount := v.frameCount, countGap := v.countGap,
                      damagedRows := f.damagedRows, flaws := f.flaws } := by
  rw [State.eyeFields, held]
  rfl

/-- A bit inside whole groups of bytes is a bit of one of their pixels. -/
theorem pixel_inside_groups (depth : Depth) {n j : Nat} (inside : j * depth.bits < 8 * (n * Depth.groupBytes depth)) :
    j < n * Depth.groupPixels depth := by
  rw [Nat.mul_left_comm, groupBits, Nat.mul_left_comm, Nat.mul_comm depth.bits] at inside
  exact Nat.lt_of_mul_lt_mul_right inside

/-- Whole groups of pixels, by the number of their bits. -/
theorem groups_of_bits (depth : Depth) {pixels : Nat}
    (whole : pixels * depth.bits % (8 * Depth.groupBytes depth) = 0) :
    pixels = pixels / Depth.groupPixels depth * Depth.groupPixels depth := by
  have positive : 0 < depth.bits := by cases depth <;> decide
  rw [groupBits, Nat.mul_comm depth.bits, Nat.mul_mod_mul_right] at whole
  have groups : pixels % Depth.groupPixels depth = 0 := (Nat.mul_eq_zero.1 whole).resolve_right positive.ne'
  exact (Nat.div_mul_cancel (Nat.dvd_of_mod_eq_zero groups)).symm

end Sys2Proof.Machine

open Sys2Proof Sys2Proof.Machine

/-- Settles O39: the completion, the writes accepted before it, the record, the writes of each kind, the packing. -/
theorem copyCompletes : Obligations.CopyCompletes := by
  unfold Obligations.CopyCompletes
  refine ⟨fun c x before after s master copying table delivering others => ?_,
    fun c x before after n s => ?_, fun c x s => ?_, fun c x l r mem => ?_, fun depth => ⟨?_, ?_⟩⟩
  · have one := PairMatcher.delivering_of_one table delivering others
    refine ⟨s.copyDone c x, ?_, rfl, rfl, State.place_held _ _, State.place_reserved _ _, State.place_nextSerial _ _,
      PairMatcher.delivered_of_one table delivering others, rfl, FrameStore.releaseAll_mem _ _, ?_⟩
    · rw [exec_copyCompletion_completes copying one master, State.completeCopy_eq]
    · obtain ⟨copy, targets, short, pairs, singles, doubles⟩ := s.delivery.completed_fields x.kind
      exact ⟨copy, targets, short, pairs, singles, doubles, rfl, rfl, rfl, rfl, rfl, rfl, rfl, rfl, rfl, rfl⟩
  · intro remaining rows cut copying table delivering others
    have one := PairMatcher.delivering_of_one table delivering others
    refine ⟨fun master => ?_, exec_copyCompletion_waits copying one, fun nonempty => ⟨_, rfl, ?_⟩⟩
    · rw [exec_copyCompletion_accepts copying one master]
      rfl
    · have inFlight : s.writesInFlight = cut := State.abandoned_of_copy copying one
      have abandoned : s.abandoned = s.carried ++ [.abandoned s.writesInFlight] :=
        if_neg (by rwa [inFlight, List.isEmpty_iff])
      rw [inFlight] at abandoned
      exact abandoned
  · refine ⟨rfl, rfl, rfl, rfl, rfl, rfl, rfl, rfl, rfl, rfl, congrArg (Option.map s.eyeFields),
      congrArg (Option.map s.eyeFields), fun v f left held => ?_, fun v f right held => ?_⟩
    · exact (congrArg (Option.map s.eyeFields) left).trans (congrArg some (State.eyeFields_of_held held))
    · exact (congrArg (Option.map s.eyeFields) right).trans (congrArg some (State.eyeFields_of_held held))
  · intro f size stored oriented fill shifted at_ lefts rights both leftRows rightRows
    have left : c.orientedRow mem c.orientLeft l.slot = leftRows := funext fun row => c.orientedRow_eq mem _ _ row
    have right : c.orientedRow mem c.orientRight r.slot = rightRows := funext fun row => c.orientedRow_eq mem _ _ row
    have shift : (fun row => c.shiftedRow mem r.slot row (x.applied.getD 0)) = shifted :=
      funext fun row => if_congr Iff.rfl (c.orientedRow_eq mem _ _ _) rfl
    have writes := c.writes_of_kind mem x l r
    rw [left, right, shift] at writes
    exact writes
  · intro bytes j whole inside
    have group : bytes.length % Depth.groupBytes depth = 0 := by cases depth <;> exact whole
    have length := (Nat.div_mul_cancel (Nat.dvd_of_mod_eq_zero group)).symm
    exact unpack_getElem? depth _ length (pixel_inside_groups depth (length ▸ inside))
  · intro pixels whole small
    have bits : pixels.length * depth.bits % (8 * Depth.groupBytes depth) = 0 := by cases depth <;> exact whole
    exact unpack_pack depth _ (groups_of_bits depth bits) small

end

section
/-! SUPPORT. The step on a queue that holds a command (log 1); `step_of_empty` says the other half. -/

namespace Sys2Proof.Machine

/-- The front of the queue is taken, and `exec` sees the rest alone. -/
theorem step_of_cons {c : Instr} {rest : List Instr} {s : State} (front : s.pending = c :: rest) :
    step s = exec c { s with pending := rest } := by
  unfold step
  rw [front]

end Sys2Proof.Machine

open Sys2Proof Sys2Proof.Machine

/-- Settles O1: the queue is not empty, so its front is the command of the step. -/
theorem stepTakesFront : Obligations.StepTakesFront := by
  unfold Obligations.StepTakesFront
  exact fun _ _ _ front => step_of_cons front

end
